-- ==== Sys2Proof/Word.lean ====
section
/-! DEFINITION. The byte, the saturating counters of the manual, and one-cell updates of a fixed-size table. -/

namespace Sys2Proof

/-- One byte of a frame. -/
abbrev Byte := BitVec 8

/-- A count that has reached its ceiling stays there. -/
def satAdd (ceiling n k : Nat) : Nat := min ceiling (n + k)

/-- One more on a 16-bit counter, 0..65 535, saturating. -/
def bump (n : Nat) : Nat := satAdd 65535 n 1

/-- One more on an 8-bit counter, 0..255, saturating. -/
def bump8 (n : Nat) : Nat := satAdd 255 n 1

/-- A table with one cell replaced. -/
def put {α : Type} {n : Nat} (v : Vector α n) (i : Fin n) (x : α) : Vector α n := v.set i.val x i.isLt

theorem vector_get_eq {α : Type} {n : Nat} (v : Vector α n) (i : Fin n) : v.get i = v[i.val] := rfl

@[simp] theorem get_put_same {α : Type} {n : Nat} (v : Vector α n) (i : Fin n) (x : α) :
    (put v i x).get i = x := by
  simp [put, vector_get_eq]

theorem get_put_other {α : Type} {n : Nat} (v : Vector α n) (i j : Fin n) (x : α) (h : j ≠ i) :
    (put v i x).get j = v.get j := by
  have h' : i.val ≠ j.val := fun e => h (Fin.ext e.symm)
  simp [put, vector_get_eq, h']

theorem get_put {α : Type} {n : Nat} (v : Vector α n) (i j : Fin n) (x : α) :
    (put v i x).get j = if j = i then x else v.get j := by
  by_cases h : j = i
  · subst h; simp
  · simp [h, get_put_other]

/-- A number inserted into an ascending list without duplicates. -/
def insertAsc {n : Nat} (i : Fin n) : List (Fin n) → List (Fin n)
  | [] => [i]
  | j :: js => if i < j then i :: j :: js else if i = j then j :: js else j :: insertAsc i js

theorem mem_insertAsc {n : Nat} (i k : Fin n) (l : List (Fin n)) :
    k ∈ insertAsc i l ↔ k = i ∨ k ∈ l := by
  induction l with
  | nil => simp [insertAsc]
  | cons j js ih =>
    unfold insertAsc
    split
    · simp
    · split
      · rename_i h; subst h; simp
      · simp only [List.mem_cons, ih]
        constructor
        · rintro (h | h | h)
          · exact Or.inr (Or.inl h)
          · exact Or.inl h
          · exact Or.inr (Or.inr h)
        · rintro (h | h | h)
          · exact Or.inr (Or.inl h)
          · exact Or.inl h
          · exact Or.inr (Or.inr h)

end Sys2Proof
end

