-- ==== Sys2Proof/Syntax.lean ====
section
/-! DEFINITION. The commands of the block: one constructor for each row of spec/opcode_table.json. -/

namespace Sys2Proof

/-- A gantry, its channel and its arc monitor: 0 stands for number 1. -/
abbrev Gantry := Fin 4

/-- A field line: 0 stands for line 1. -/
abbrev LineIx := Fin 16

/-- The two cranes: C1 works from the west end of the runway, C2 from the east end. -/
inductive CraneId where
  | c1
  | c2
deriving DecidableEq, Repr

/-- The other crane of the runway. -/
def CraneId.other : CraneId → CraneId
  | .c1 => .c2
  | .c2 => .c1

/-- The seven serial ports. -/
inductive Port where
  | host
  | gantry (g : Gantry)
  | crane (c : CraneId)
deriving DecidableEq, Repr

/-- A frame without its envelope: the lead byte, length and CRC follow from these (R167). -/
structure Frame where
  typ : Byte
  tag : Byte
  body : List Byte
deriving DecidableEq, Repr

/-- The level of a field line input. -/
inductive Level where
  | low
  | high
deriving DecidableEq, Repr

/-- The host link rate that the strap pins select. -/
inductive LinkRate where
  | slow   -- 230 400 bit/s
  | fast   -- 921 600 bit/s
deriving DecidableEq, Repr

/-- Why a receiver abandons a frame whose bytes are in (R168). -/
inductive FrameError where
  /-- The two length bytes, low byte first, give a length outside 2..254. -/
  | badLength (lo hi : Byte)
  /-- The CRC does not match. -/
  | badCrc
deriving DecidableEq, Repr

/-- The commands. A request carries its frame's tag and body bytes, so that every body the host can send is a form
of the command; a message of a gantry or crane carries its fields; a timer's expiry names the timer's owner. -/
inductive Instr where
  -- resets: the strap pins as they are sampled
  | powerOn (straps : LinkRate)
  | resetPin (straps : LinkRate)
  -- host link requests
  | identify (tag : Byte) (body : List Byte)
  | linkStatus (tag : Byte) (body : List Byte)
  | noticeMask (tag : Byte) (body : List Byte)
  | noticeClear (tag : Byte) (body : List Byte)
  -- hall and field line requests
  | hallStatus (tag : Byte) (body : List Byte)
  | hallRun (tag : Byte) (body : List Byte)
  | hallPause (tag : Byte) (body : List Byte)
  | hallPark (tag : Byte) (body : List Byte)
  | hallWake (tag : Byte) (body : List Byte)
  | hallReset (tag : Byte) (body : List Byte)
  | hallSet (tag : Byte) (body : List Byte)
  | lineSet (tag : Byte) (body : List Byte)
  | lineStatus (tag : Byte) (body : List Byte)
  | lineClear (tag : Byte) (body : List Byte)
  -- bay requests
  | bayStatus (tag : Byte) (body : List Byte)
  | bayDeclare (tag : Byte) (body : List Byte)
  | bayAccept (tag : Byte) (body : List Byte)
  | bayClear (tag : Byte) (body : List Byte)
  | readerSet (tag : Byte) (body : List Byte)
  | placesSet (tag : Byte) (body : List Byte)
  -- channel and arc requests
  | steps (tag : Byte) (body : List Byte)
  | start (tag : Byte) (body : List Byte)
  | hold (tag : Byte) (body : List Byte)
  | resume (tag : Byte) (body : List Byte)
  | stop (tag : Byte) (body : List Byte)
  | flush (tag : Byte) (body : List Byte)
  | channelStatus (tag : Byte) (body : List Byte)
  | arcSet (tag : Byte) (body : List Byte)
  | arcStatus (tag : Byte) (body : List Byte)
  -- feeder budget requests
  | budgetSet (tag : Byte) (body : List Byte)
  | budgetStatus (tag : Byte) (body : List Byte)
  -- marking requests
  | heatOpen (tag : Byte) (body : List Byte)
  | heatClose (tag : Byte) (body : List Byte)
  | heatReopen (tag : Byte) (body : List Byte)
  | heatDrop (tag : Byte) (body : List Byte)
  | heatStatus (tag : Byte) (body : List Byte)
  | traceRead (tag : Byte) (body : List Byte)
  -- remnant requests
  | remnantAdd (tag : Byte) (body : List Byte)
  | remnantFromBay (tag : Byte) (body : List Byte)
  | remnantReserve (tag : Byte) (body : List Byte)
  | remnantUnreserve (tag : Byte) (body : List Byte)
  | remnantRenew (tag : Byte) (body : List Byte)
  | remnantRead (tag : Byte) (body : List Byte)
  | remnantFind (tag : Byte) (body : List Byte)
  | remnantSet (tag : Byte) (body : List Byte)
  | remnantDrop (tag : Byte) (body : List Byte)
  -- crane requests
  | orderSubmit (tag : Byte) (body : List Byte)
  | orderCancel (tag : Byte) (body : List Byte)
  | orderRedirect (tag : Byte) (body : List Byte)
  | orderStatus (tag : Byte) (body : List Byte)
  | craneStatus (tag : Byte) (body : List Byte)
  | craneResume (tag : Byte) (body : List Byte)
  | craneClear (tag : Byte) (body : List Byte)
  | craneSet (tag : Byte) (body : List Byte)
  -- other frames and link events
  | unknownTypeRequest (typ : Byte) (tag : Byte) (body : List Byte)
  | invalidFrame (port : Port) (why : FrameError)
  | frameGapTimeout (port : Port)
  | sendReply
  | sendNotice
  | transmitFrameEnd
  | linkSilence
  | summaryTimerExpiry
  | purgeTimerExpiry
  -- field line events
  | lineInputChange (line : LineIx) (level : Level)
  | lineFilterExpiry (line : LineIx)
  -- gantry port events
  | gantryDone (g : Gantry) (seq : Byte)
  | gantryHalted (g : Gantry) (x : BitVec 32) (y : BitVec 16)
  | gantrySample (g : Gantry) (voltage : BitVec 16)
  | gantryRead (g : Gantry) (bay : Byte) (chars : List Byte)
  | gantryStatus (g : Gantry) (code : Byte)
  | gantryStrayFrame (g : Gantry) (typ : Byte) (body : List Byte)
  | gantrySilenceTimeout (g : Gantry)
  -- channel and arc timers
  | haltTimerExpiry (g : Gantry)
  | dwellTimerExpiry (g : Gantry)
  | checkTimerExpiry (g : Gantry)
  | strikeTimerExpiry (g : Gantry)
  -- crane port events
  | cranePortStatus (c : CraneId) (position : BitVec 32) (hook : Byte) (code : Byte)
  | arrived (c : CraneId) (position : BitVec 32)
  | picked (c : CraneId)
  | setDown (c : CraneId)
  | craneStrayFrame (c : CraneId) (typ : Byte) (body : List Byte)
  | craneSilenceTimeout (c : CraneId)
  | hoistTimerExpiry (c : CraneId)
  -- dispatcher, remnant and receiver events
  | orderPromotion (number : Nat)
  | agingTimerExpiry
  | receiveByte (port : Port) (byte : Byte)
deriving DecidableEq, Repr

end Sys2Proof
end

