-- ==== Sys2Proof/Decode.lean ====
section
/-! DEFINITION. From bytes to commands: byte order, the CRC and envelope of R167, and which command a valid frame is (R48,
R136, R169). The opcode table gives no row any bits, so decodeTableWord spells none. -/

namespace Sys2Proof

/-- R167: a number as `width` bytes, low byte first. -/
def toBytes : Nat → Nat → List Byte
  | 0, _ => []
  | width + 1, n => BitVec.ofNat 8 n :: toBytes width (n / 256)

/-- R167: the number whose bytes these are, low byte first. -/
def ofBytes : List Byte → Nat
  | [] => 0
  | b :: bs => b.toNat + 256 * ofBytes bs

/-- R171: a signed number in two's complement over `width` bytes. -/
def toSignedBytes (width : Nat) (n : Int) : List Byte := toBytes width (n % (256 ^ width : Nat)).toNat

/-- R167: one bit of the CRC register's shift. -/
def crcBit (c : BitVec 16) : BitVec 16 :=
  if c.msb then (c <<< 1) ^^^ 0x1021#16 else c <<< 1

/-- R167: a byte enters the CRC register, most significant bit first. -/
def crcByte (c : BitVec 16) (b : Byte) : BitVec 16 :=
  let d := c ^^^ (b.setWidth 16 <<< 8)
  crcBit (crcBit (crcBit (crcBit (crcBit (crcBit (crcBit (crcBit d)))))))

/-- R167: the CRC of a run of bytes, from initial value 0xFFFF. -/
def crc (bytes : List Byte) : BitVec 16 := bytes.foldl crcByte 0xFFFF#16

/-- R167: the lead byte. -/
def leadByte : Byte := 0xA5

/-- R167: the bytes the CRC covers: length, type, tag, body. -/
def Frame.covered (f : Frame) : List Byte := toBytes 2 (f.body.length + 2) ++ f.typ :: f.tag :: f.body

/-- R167: the whole frame on the line. -/
def Frame.bytes (f : Frame) : List Byte := leadByte :: f.covered ++ toBytes 2 (crc f.covered).toNat

/-- R169, the table of section 10.2: the request of a valid host frame. -/
def hostCommand (f : Frame) : Instr :=
  match f.typ.toNat with
  | 0x01 => .identify f.tag f.body
  | 0x02 => .linkStatus f.tag f.body
  | 0x03 => .noticeMask f.tag f.body
  | 0x04 => .noticeClear f.tag f.body
  | 0x11 => .hallStatus f.tag f.body
  | 0x12 => .hallRun f.tag f.body
  | 0x13 => .hallPause f.tag f.body
  | 0x14 => .hallPark f.tag f.body
  | 0x15 => .hallWake f.tag f.body
  | 0x16 => .hallReset f.tag f.body
  | 0x17 => .hallSet f.tag f.body
  | 0x18 => .lineSet f.tag f.body
  | 0x19 => .lineStatus f.tag f.body
  | 0x1A => .lineClear f.tag f.body
  | 0x21 => .bayStatus f.tag f.body
  | 0x22 => .bayDeclare f.tag f.body
  | 0x23 => .bayAccept f.tag f.body
  | 0x24 => .bayClear f.tag f.body
  | 0x25 => .readerSet f.tag f.body
  | 0x26 => .placesSet f.tag f.body
  | 0x31 => .steps f.tag f.body
  | 0x32 => .start f.tag f.body
  | 0x33 => .hold f.tag f.body
  | 0x34 => .resume f.tag f.body
  | 0x35 => .stop f.tag f.body
  | 0x36 => .flush f.tag f.body
  | 0x37 => .channelStatus f.tag f.body
  | 0x38 => .arcSet f.tag f.body
  | 0x39 => .arcStatus f.tag f.body
  | 0x41 => .budgetSet f.tag f.body
  | 0x42 => .budgetStatus f.tag f.body
  | 0x51 => .heatOpen f.tag f.body
  | 0x52 => .heatClose f.tag f.body
  | 0x53 => .heatReopen f.tag f.body
  | 0x54 => .heatDrop f.tag f.body
  | 0x55 => .heatStatus f.tag f.body
  | 0x56 => .traceRead f.tag f.body
  | 0x61 => .remnantAdd f.tag f.body
  | 0x62 => .remnantFromBay f.tag f.body
  | 0x63 => .remnantReserve f.tag f.body
  | 0x64 => .remnantUnreserve f.tag f.body
  | 0x65 => .remnantRenew f.tag f.body
  | 0x66 => .remnantRead f.tag f.body
  | 0x67 => .remnantFind f.tag f.body
  | 0x68 => .remnantSet f.tag f.body
  | 0x69 => .remnantDrop f.tag f.body
  | 0x71 => .orderSubmit f.tag f.body
  | 0x72 => .orderCancel f.tag f.body
  | 0x73 => .orderRedirect f.tag f.body
  | 0x74 => .orderStatus f.tag f.body
  | 0x75 => .craneStatus f.tag f.body
  | 0x76 => .craneResume f.tag f.body
  | 0x77 => .craneClear f.tag f.body
  | 0x78 => .craneSet f.tag f.body
  | _ => .unknownTypeRequest f.typ f.tag f.body

/-- R48: the message of a valid gantry frame. -/
def gantryCommand (g : Gantry) (f : Frame) : Instr :=
  match f.typ.toNat, f.body.length with
  | 0x81, 0 => .gantryDone g f.tag
  | 0x82, 6 => .gantryHalted g (BitVec.ofNat 32 (ofBytes (f.body.take 4))) (BitVec.ofNat 16 (ofBytes (f.body.drop 4)))
  | 0x83, 2 => .gantrySample g (BitVec.ofNat 16 (ofBytes f.body))
  | 0x84, 9 => .gantryRead g (f.body.headD 0) f.body.tail
  | 0x85, 1 => .gantryStatus g (f.body.headD 0)
  | _, _ => .gantryStrayFrame g f.typ f.body

/-- R136: the message of a valid crane frame. -/
def craneCommand (c : CraneId) (f : Frame) : Instr :=
  match f.typ.toNat, f.body.length with
  | 0x81, 6 => .cranePortStatus c (BitVec.ofNat 32 (ofBytes (f.body.take 4))) (f.body.getD 4 0) (f.body.getD 5 0)
  | 0x82, 4 => .arrived c (BitVec.ofNat 32 (ofBytes f.body))
  | 0x83, 0 => .picked c
  | 0x84, 0 => .setDown c
  | _, _ => .craneStrayFrame c f.typ f.body

/-- The command that a valid frame on a port is. -/
def frameCommand (p : Port) (f : Frame) : Instr :=
  match p with
  | .host => hostCommand f
  | .gantry g => gantryCommand g f
  | .crane c => craneCommand c f

/-- The frame a command arrives in, with its port; none for a command that is no single valid frame. The tag of a gantry or
crane message that does not use it is 0 (R48, R136). -/
def commandFrame : Instr → Option (Port × Frame)
  | .identify tag body => some (.host, ⟨0x01, tag, body⟩)
  | .linkStatus tag body => some (.host, ⟨0x02, tag, body⟩)
  | .noticeMask tag body => some (.host, ⟨0x03, tag, body⟩)
  | .noticeClear tag body => some (.host, ⟨0x04, tag, body⟩)
  | .hallStatus tag body => some (.host, ⟨0x11, tag, body⟩)
  | .hallRun tag body => some (.host, ⟨0x12, tag, body⟩)
  | .hallPause tag body => some (.host, ⟨0x13, tag, body⟩)
  | .hallPark tag body => some (.host, ⟨0x14, tag, body⟩)
  | .hallWake tag body => some (.host, ⟨0x15, tag, body⟩)
  | .hallReset tag body => some (.host, ⟨0x16, tag, body⟩)
  | .hallSet tag body => some (.host, ⟨0x17, tag, body⟩)
  | .lineSet tag body => some (.host, ⟨0x18, tag, body⟩)
  | .lineStatus tag body => some (.host, ⟨0x19, tag, body⟩)
  | .lineClear tag body => some (.host, ⟨0x1A, tag, body⟩)
  | .bayStatus tag body => some (.host, ⟨0x21, tag, body⟩)
  | .bayDeclare tag body => some (.host, ⟨0x22, tag, body⟩)
  | .bayAccept tag body => some (.host, ⟨0x23, tag, body⟩)
  | .bayClear tag body => some (.host, ⟨0x24, tag, body⟩)
  | .readerSet tag body => some (.host, ⟨0x25, tag, body⟩)
  | .placesSet tag body => some (.host, ⟨0x26, tag, body⟩)
  | .steps tag body => some (.host, ⟨0x31, tag, body⟩)
  | .start tag body => some (.host, ⟨0x32, tag, body⟩)
  | .hold tag body => some (.host, ⟨0x33, tag, body⟩)
  | .resume tag body => some (.host, ⟨0x34, tag, body⟩)
  | .stop tag body => some (.host, ⟨0x35, tag, body⟩)
  | .flush tag body => some (.host, ⟨0x36, tag, body⟩)
  | .channelStatus tag body => some (.host, ⟨0x37, tag, body⟩)
  | .arcSet tag body => some (.host, ⟨0x38, tag, body⟩)
  | .arcStatus tag body => some (.host, ⟨0x39, tag, body⟩)
  | .budgetSet tag body => some (.host, ⟨0x41, tag, body⟩)
  | .budgetStatus tag body => some (.host, ⟨0x42, tag, body⟩)
  | .heatOpen tag body => some (.host, ⟨0x51, tag, body⟩)
  | .heatClose tag body => some (.host, ⟨0x52, tag, body⟩)
  | .heatReopen tag body => some (.host, ⟨0x53, tag, body⟩)
  | .heatDrop tag body => some (.host, ⟨0x54, tag, body⟩)
  | .heatStatus tag body => some (.host, ⟨0x55, tag, body⟩)
  | .traceRead tag body => some (.host, ⟨0x56, tag, body⟩)
  | .remnantAdd tag body => some (.host, ⟨0x61, tag, body⟩)
  | .remnantFromBay tag body => some (.host, ⟨0x62, tag, body⟩)
  | .remnantReserve tag body => some (.host, ⟨0x63, tag, body⟩)
  | .remnantUnreserve tag body => some (.host, ⟨0x64, tag, body⟩)
  | .remnantRenew tag body => some (.host, ⟨0x65, tag, body⟩)
  | .remnantRead tag body => some (.host, ⟨0x66, tag, body⟩)
  | .remnantFind tag body => some (.host, ⟨0x67, tag, body⟩)
  | .remnantSet tag body => some (.host, ⟨0x68, tag, body⟩)
  | .remnantDrop tag body => some (.host, ⟨0x69, tag, body⟩)
  | .orderSubmit tag body => some (.host, ⟨0x71, tag, body⟩)
  | .orderCancel tag body => some (.host, ⟨0x72, tag, body⟩)
  | .orderRedirect tag body => some (.host, ⟨0x73, tag, body⟩)
  | .orderStatus tag body => some (.host, ⟨0x74, tag, body⟩)
  | .craneStatus tag body => some (.host, ⟨0x75, tag, body⟩)
  | .craneResume tag body => some (.host, ⟨0x76, tag, body⟩)
  | .craneClear tag body => some (.host, ⟨0x77, tag, body⟩)
  | .craneSet tag body => some (.host, ⟨0x78, tag, body⟩)
  | .unknownTypeRequest typ tag body => some (.host, ⟨typ, tag, body⟩)
  | .gantryDone g seq => some (.gantry g, ⟨0x81, seq, []⟩)
  | .gantryHalted g x y => some (.gantry g, ⟨0x82, 0, toBytes 4 x.toNat ++ toBytes 2 y.toNat⟩)
  | .gantrySample g v => some (.gantry g, ⟨0x83, 0, toBytes 2 v.toNat⟩)
  | .gantryRead g bay chars => some (.gantry g, ⟨0x84, 0, bay :: chars⟩)
  | .gantryStatus g code => some (.gantry g, ⟨0x85, 0, [code]⟩)
  | .gantryStrayFrame g typ body => some (.gantry g, ⟨typ, 0, body⟩)
  | .cranePortStatus c position hook code => some (.crane c, ⟨0x81, 0, toBytes 4 position.toNat ++ [hook, code]⟩)
  | .arrived c position => some (.crane c, ⟨0x82, 0, toBytes 4 position.toNat⟩)
  | .picked c => some (.crane c, ⟨0x83, 0, []⟩)
  | .setDown c => some (.crane c, ⟨0x84, 0, []⟩)
  | .craneStrayFrame c typ body => some (.crane c, ⟨typ, 0, body⟩)
  | .powerOn _ | .resetPin _ | .invalidFrame _ _ | .frameGapTimeout _ | .sendReply | .sendNotice | .transmitFrameEnd
  | .linkSilence | .summaryTimerExpiry | .purgeTimerExpiry | .lineInputChange _ _ | .lineFilterExpiry _
  | .gantrySilenceTimeout _ | .haltTimerExpiry _ | .dwellTimerExpiry _ | .checkTimerExpiry _ | .strikeTimerExpiry _
  | .craneSilenceTimeout _ | .hoistTimerExpiry _ | .orderPromotion _ | .agingTimerExpiry | .receiveByte _ _ => none

/-- The command a table word spells. No row of spec/opcode_table.json gives bits, so no word spells one. -/
def decodeTableWord (_nbits _w : Nat) : Option Instr := none

end Sys2Proof
end

