-- ==== Sys2Proof/Config.lean ====
section
/-! DEFINITION. The capacities the manual fixes, and the FREE VALUES: results the manual asks for and does not state.
A free value is a constant with no body, so nothing can be proved of it; notes/assumptions says where each is used. -/

namespace Sys2Proof.Config

/-- R24: the step buffer is a ring of 0..48 step records. -/
def bufferSize : Nat := 48
/-- R28: the gantry window holds at most four entries. -/
def windowSize : Nat := 4
/-- R115: the order queue holds at most 16 open orders. -/
def queueSize : Nat := 16
/-- R116: the ended-order history keeps the latest 32. -/
def historySize : Nat := 32
/-- R91: the trace list holds the latest 64 records. -/
def traceSize : Nat := 64
/-- R170: the reply queue holds 0..4 replies. -/
def replyQueueSize : Nat := 4
/-- R91: the trace total saturates here. -/
def traceTotalMax : Nat := 4294967295
/-- R42: the halt timer, in ms. -/
def haltTime : Nat := 1000
/-- R49: the gantry silence timer, in ms. -/
def gantrySilenceTime : Nat := 100
/-- R137: the crane silence timer, in ms. -/
def craneSilenceTime : Nat := 500
/-- R145, R146: the hoist timer, 120 s in ms. -/
def hoistTime : Nat := 120000

/-- FREE VALUE (notes/assumptions/1): the target R140 asks for when the bounds it names exclude one another.
Arguments: the lower bound, the upper bound, the needed position. -/
opaque openTarget : Int → Int → Nat → Nat

/-- FREE VALUE (notes/assumptions/2): whether a hook byte of a crane STATUS that is neither 0 nor 1 reads as LOADED. -/
opaque openHook : Byte → Bool

/-- FREE VALUE (notes/assumptions/3): the eight bytes that stand for an UNREADABLE entry of a reader history. -/
opaque unreadableEntry : BitVec 64

/-- FREE VALUE (notes/assumptions/3): the kind byte CHANNEL_STATUS gives a MARK_TEXT entry of a gantry window. -/
opaque markTextKind : Byte

/-- FREE VALUE (notes/assumptions/3): the state byte HEAT_STATUS gives a free heat entry. -/
opaque freeHeatState : Byte

/-- FREE VALUE (notes/assumptions/59): whether CRANE_STATUS counts a part of a second of the remaining hoist time as a whole
one. Argument: the remaining time in ms. -/
opaque openSecond : Nat → Bool

end Sys2Proof.Config
end

