-- ==== Sys2Proof/Machine/State.lean ====
section
/-! DEFINITION. Every piece of state the manual gives the GH480, block by block, and the state after reset.

Numbered things are Fin indices counted from 0: channel, gantry and monitor g are index g - 1, bay b is b - 1, line l is
l - 1, rack and slot likewise; heat entries, remnant records keep their own numbers.
A timer is an Option: none is stopped, some t is running with t ms left. -/

namespace Sys2Proof.Machine

/-! ## Bay table (chapter 1) -/

abbrev BayIx := Fin 8
abbrev HeatIx := Fin 32
abbrev RemnantIx := Fin 96

/-- Eight ASCII characters 0-9, A-Z. -/
abbrev Code := List Byte

/-- R4: the bay states, in the manual's order. -/
inductive BayState where
  | empty | loading | placed | ready | mismatch | burning | cut | unloading
deriving DecidableEq, Repr

/-- R5: the result of comparing the reader's declarations with the heat code. -/
inductive Identity where
  | unchecked | matched | mismatched | accepted
deriving DecidableEq, Repr

/-- R4, R12: what the last burn of the bay came to. -/
inductive BurnOutcome where
  | none | complete | incomplete
deriving DecidableEq, Repr

/-- R18: one entry of a reader history. -/
inductive Read where
  | code (c : Code)
  | unreadable
deriving DecidableEq, Repr

/-- R5: the plate record. -/
structure Plate where
  heat : HeatIx
  grade : Nat
  thickness : Nat
  width : Nat
  length : Nat
  remnant : Option RemnantIx
  identity : Identity
deriving DecidableEq, Repr

/-- R4: the bay record. -/
structure Bay where
  state : BayState
  plate : Option Plate
  claim : Option Nat
  lastDeclared : Option Code
  history : List Read
  comparePending : Bool
  outcome : BurnOutcome
  readsStored : Nat
  readsDiscarded : Nat
  declarations : Nat
deriving DecidableEq, Repr

/-- R1: the stretch of runway a bay's table occupies, both ends included. -/
structure Interval where
  first : Nat
  last : Nat
deriving DecidableEq, Repr

/-- R1: the hall layout. -/
structure Layout where
  runwayEnd : Nat
  bays : Vector Interval 8
  intake : Nat
  racks : Vector Nat 4
  offload : Nat
deriving DecidableEq, Repr

/-- R4: the bay table. -/
structure BayTable where
  bays : Vector Bay 8
  readerK : Nat
  readerN : Nat
  misdirected : Nat
  /-- R16: the changed-bay set, ascending. -/
  changed : List BayIx
  layout : Layout
deriving DecidableEq, Repr

/-! ## Burn channels (chapter 2) -/

/-- A point of a bay in units of 0.1 mm. -/
structure Point where
  x : Nat
  y : Nat
deriving DecidableEq, Repr

inductive Direction where
  | cw | ccw
deriving DecidableEq, Repr

/-- R25: the nine kinds of step with their fields. -/
inductive Step where
  | travel (x y feed : Nat)
  | pierce (current setpoint dwell : Nat)
  | cutLine (x y feed current setpoint : Nat)
  | cutArc (x y : Nat) (dx dy : Int) (direction : Direction) (feed current setpoint : Nat)
  | extinguish
  | mark (x y part height current setpoint : Nat)
  | milestone (code : Nat)
  | check (line : LineIx) (active : Bool) (timeout : Nat)
  | finish
deriving DecidableEq, Repr

/-- R28, R35: what a window entry stands for: a motion step, a MARK's positioning move, or a MARK_TEXT. -/
inductive EntryStep where
  | motion (step : Step)
  | markMove
  | markText
deriving DecidableEq, Repr

/-- R28: one entry of the gantry window. -/
structure WindowEntry where
  seq : Byte
  step : EntryStep
  start : Option Point
  centre : Option (Int × Int)
deriving DecidableEq, Repr

/-- R92: the outcome of a MARK step. -/
inductive TraceOutcome where
  | writing | marked | markFailed | notMarked | noSerial
deriving DecidableEq, Repr

/-- R92: a trace record. -/
structure TraceRecord where
  number : Nat
  channel : Gantry
  bay : BayIx
  heat : HeatIx
  code : Code
  serial : Option Nat
  part : Nat
  outcome : TraceOutcome
deriving DecidableEq, Repr

/-- R35: the stage of a MARK in progress: its positioning move, its booking and strike, or its text with the record made
when the serial was assigned. -/
inductive MarkStage where
  | positioning
  | striking
  | writing (record : TraceRecord)
deriving DecidableEq, Repr

/-- R24: the step in progress, with the fields it needs until it is done. -/
inductive InProgress where
  | none
  | pierce (current setpoint dwell : Nat)
  | repierce (current setpoint : Nat)
  | mark (x y part height current setpoint : Nat) (stage : MarkStage)
  | check (line : LineIx) (active : Bool) (timeout : Nat)
deriving DecidableEq, Repr

inductive ChannelState where
  | idle | running | waitBudget | waitCheck | starved | held | ending
deriving DecidableEq, Repr

inductive HeldCause where
  | host | guard | arcLost
deriving DecidableEq, Repr

/-- R45: the nine end statuses, in code order. -/
inductive EndStatus where
  | complete | aborted | hallStop | strikeFailed | checkTimeout | budgetImpossible | sequenceError | gantryFault
  | gantrySilent
deriving DecidableEq, Repr

/-- R24: last end status, last ended bay and last pierce consumed, which come and go together. -/
structure EndRecord where
  status : EndStatus
  bay : BayIx
  pierceConsumed : Bool
deriving DecidableEq, Repr

/-- R61: the arc parameters. Voltages in 0.1 V, the timeout in ms. -/
structure ArcParams where
  band : Nat
  stableCount : Nat
  window : Nat
  lossCount : Nat
  strikeTimeout : Nat
  strikeRetries : Nat
deriving DecidableEq, Repr

/-- R24: the channel record. -/
structure Channel where
  state : ChannelState
  heldCause : Option HeldCause
  bay : Option BayIx
  buffer : List Step
  window : List WindowEntry
  frozen : Bool
  /-- Halt awaited is set exactly while this timer runs. -/
  haltTimer : Option Nat
  dwellTimer : Option Nat
  checkTimer : Option Nat
  inProgress : InProgress
  reentry : Bool
  endConsumed : Bool
  pierceConsumed : Bool
  path : Option Point
  nextSeq : Byte
  /-- The per-run copy of the arc parameters. -/
  params : ArcParams
  milestoneCode : Nat
  milestoneCount : Nat
  lastEnd : Option EndRecord
  /-- R49: the gantry is present exactly while its silence timer runs. -/
  gantryTimer : Option Nat
  gantryCode : Byte
  stepsDone : Nat
  pierces : Nat
  repierces : Nat
  starvations : Nat
  bufferFull : Nat
  clamps : Nat
  strays : Nat
deriving DecidableEq, Repr

/-! ## Arc monitors (chapter 3) -/

inductive ArcState where
  | dark | striking | stable | disturbed
deriving DecidableEq, Repr

inductive StrikePurpose where
  | pierce | repierce | mark
deriving DecidableEq, Repr

/-- R52: the classification of one sample. -/
inductive Quality where
  | good | bad
deriving DecidableEq, Repr

/-- R50: the monitor record. -/
structure Monitor where
  arc : ArcState
  setpoint : Option Nat
  purpose : Option StrikePurpose
  goodCount : Nat
  samples : List Quality
  badCount : Nat
  strikeTimer : Option Nat
  retryCount : Nat
  heightHold : Bool
  /-- The set parameters. -/
  params : ArcParams
  classified : Nat
  discarded : Nat
  clamped : Nat
  retriesMade : Nat
  strikeFailures : Nat
  disturbances : Nat
  losses : Nat
deriving DecidableEq, Repr

/-! ## Feeder budget (chapter 4) -/

inductive BookingKind where
  | none | pierce | cut | mark
deriving DecidableEq, Repr

structure Booking where
  kind : BookingKind
  amount : Nat
deriving DecidableEq, Repr

/-- R72: the hall's cause in the gate. -/
inductive HallGateCause where
  | park | purge | pause
deriving DecidableEq, Repr

/-- R64: the gate causes; at most one of them is a hall cause (R72). The gate is OPEN when there is none. -/
structure GateCauses where
  load : Bool
  hall : Option HallGateCause
deriving DecidableEq, Repr

/-- R66: the kind of a request for a new arc. -/
inductive ArcKind where
  | pierce | mark
deriving DecidableEq, Repr

structure Waiter where
  channel : Gantry
  kind : ArcKind
  amount : Nat
deriving DecidableEq, Repr

/-- R64: the budget record. -/
structure Budget where
  bookings : Vector Booking 4
  total : Nat
  limit : Nat
  high : Nat
  low : Nat
  surge : Nat
  causes : GateCauses
  waitList : List Waiter
  immediate : Nat
  fromList : Nat
  joins : Nat
  clampedRaises : Nat
  impossible : Nat
  gateClosings : Nat
deriving DecidableEq, Repr

/-! ## Mark composer (chapter 5) -/

inductive HeatState where
  | active | closed
deriving DecidableEq, Repr

/-- R81: a heat entry in use. -/
structure Heat where
  state : HeatState
  code : Code
  grade : Nat
  first : Nat
  next : Nat
  made : Nat
  failed : Nat
  refs : Nat
deriving DecidableEq, Repr

structure Composer where
  heats : Vector (Option Heat) 32
  total : Nat
  trace : List TraceRecord
  /-- R94: the record whose final outcome last marked the MARK class. -/
  lastMark : Option TraceRecord
deriving DecidableEq, Repr

/-! ## Remnant table (chapter 6) -/

/-- R97: a rack slot. -/
structure Slot where
  rack : Fin 4
  slot : Fin 24
deriving DecidableEq, Repr

/-- R96: the states of a record that is not VACANT. -/
inductive RemnantState where
  | stocked | reserved | expired | called | moving | inBay
deriving DecidableEq, Repr

/-- R96: a remnant record that is not VACANT. -/
structure Remnant where
  state : RemnantState
  heat : HeatIx
  grade : Nat
  thickness : Nat
  rawWidth : Nat
  rawLength : Nat
  usableWidth : Nat
  usableLength : Nat
  slot : Option Slot
  bay : Option BayIx
  crane : Option CraneId
  age : Nat
  tag : Option Nat
deriving DecidableEq, Repr

/-- R96: the remnant table; none is a VACANT record. -/
structure RemnantTable where
  records : Vector (Option Remnant) 96
  margin : Nat
  minDimension : Nat
  /-- In minutes, 0 is off. -/
  agingPeriod : Nat
  expiryCount : Nat
  agingTimer : Option Nat
  expired : List RemnantIx
  expiries : Nat
deriving DecidableEq, Repr

/-! ## Order queue and dispatcher (chapter 7) -/

/-- A place with its slot where it is a rack, or the hook of a crane. -/
inductive Site where
  | hook
  | intake
  | bay (b : BayIx)
  | rack (s : Slot)
  | offload
deriving DecidableEq, Repr

inductive OrderKind where
  | loadNew | loadRemnant | unloadToRack | unloadToOffload | restock | scrapRemnant | deliver
deriving DecidableEq, Repr

inductive OrderState where
  | queued | assigned | lifting | carrying | lowering | suspended
deriving DecidableEq, Repr

/-- R115: the phases an order can be suspended in. -/
inductive Phase where
  | assigned | lifting | carrying | lowering
deriving DecidableEq, Repr

inductive OrderClass where
  | normal | urgent
deriving DecidableEq, Repr

inductive CraneChoice where
  | any
  | only (c : CraneId)
deriving DecidableEq, Repr

/-- R115: the plate attributes that move with a load. -/
structure LoadRecord where
  heat : HeatIx
  grade : Nat
  thickness : Nat
  width : Nat
  length : Nat
  remnant : Option RemnantIx
deriving DecidableEq, Repr

/-- R115: an open order. -/
structure Order where
  number : Nat
  kind : OrderKind
  state : OrderState
  suspendedPhase : Option Phase
  cls : OrderClass
  promoted : Bool
  choice : CraneChoice
  source : Site
  dest : Site
  load : Option LoadRecord
  mass : Nat
  crane : Option CraneId
  /-- The queued time, held in ms; the manual's value is its whole seconds. Present while QUEUED. -/
  queuedMs : Option Nat
  priorBay : Option BayState
  priorRemnant : Option RemnantState
deriving DecidableEq, Repr

inductive FinalState where
  | done | cancelled | failed
deriving DecidableEq, Repr

inductive EndCause where
  | host | overload | cleared
deriving DecidableEq, Repr

/-- R116: an entry of the ended-order history. -/
structure Ended where
  number : Nat
  kind : OrderKind
  final : FinalState
  cause : Option EndCause
  crane : Option CraneId
deriving DecidableEq, Repr

/-- One value for each crane. -/
structure ByCrane (α : Type) where
  c1 : α
  c2 : α
deriving DecidableEq, Repr

inductive ChoiceMode where
  | nearest | byPlace
deriving DecidableEq, Repr

/-- A place 1..14: index 0 stands for place 1. -/
abbrev PlaceIx := Fin 14

/-- R134: the crane and dispatch settings. -/
structure CraneSettings where
  separation : Nat
  margin : Nat
  swl : ByCrane Nat
  /-- The reach sets, ascending. -/
  reach : ByCrane (List PlaceIx)
  mode : ChoiceMode
  preference : Vector CraneId 14
  urgentLimit : Nat
  /-- In seconds, 0 is off. -/
  agingTime : Nat
  park : ByCrane Nat
deriving DecidableEq, Repr

structure Dispatcher where
  orders : List Order
  urgent : List Nat
  normal : List Nat
  urgentRun : Nat
  counter : Nat
  history : List Ended
  settings : CraneSettings
  accepted : Nat
  refused : Nat
  done : Nat
  cancelled : Nat
  failed : Nat
  promotions : Nat
  dispatches : Nat
  /-- The MODEL's own: a dispatch pass (R127) is due before the present command ends. Clear between commands. -/
  passDue : Bool
deriving DecidableEq, Repr

/-! ## Runway controller (chapter 8) -/

inductive CraneState where
  | offline | parked | idle | yielding | travel | hoist | wait | stopped | stranded
deriving DecidableEq, Repr

inductive Purpose where
  | order | yield | park
deriving DecidableEq, Repr

inductive WaitCause where
  | separationSpan | burningBay | guard
deriving DecidableEq, Repr

inductive StopCause where
  | fault | overload | hallStop | separation | hoistTimeout
deriving DecidableEq, Repr

/-- R135: the needed position with its purpose, which come and go together. -/
structure Goal where
  position : Nat
  purpose : Purpose
deriving DecidableEq, Repr

/-- R135: the crane record. -/
structure Crane where
  state : CraneState
  position : Nat
  target : Option Nat
  goal : Option Goal
  order : Option Nat
  hook : Option LoadRecord
  hookLoaded : Bool
  drive : Byte
  waitCause : Option WaitCause
  stopCause : Option StopCause
  withdrawn : Bool
  hoistTimer : Option Nat
  silenceTimer : Option Nat
  lastEnded : Option Ended
  offlineEntries : Nat
  clippedTargets : Nat
  strays : Nat
  separationFaults : Nat
  /-- The MODEL's own: the cause of the clip of the present target (R140), which WAIT takes (R141); none when unclipped. -/
  clip : Option WaitCause
deriving DecidableEq, Repr

/-! ## Field lines and hall (chapter 9) -/

inductive LineFunction where
  | general
  | guard (b : BayIx)
  | overload (c : CraneId)
  | hallStop
  | wake
deriving DecidableEq, Repr

inductive LatchEdge where
  | enter | leave | both
deriving DecidableEq, Repr

/-- R152: a field line record, with the input pin it watches. -/
structure Line where
  function : LineFunction
  activeLevel : Level
  filterTime : Nat
  edge : LatchEdge
  filtered : Level
  filterTimer : Option Nat
  latch : Bool
  changes : Nat
  glitches : Nat
  /-- The level present at the input pin. -/
  input : Level
deriving DecidableEq, Repr

inductive HallState where
  | park | purge | run | pause
deriving DecidableEq, Repr

inductive HallCause where
  | reset | host | wakeLine | purgeDone | linkSilence | stopLine
deriving DecidableEq, Repr

/-- R158: the hall record. -/
structure Hall where
  state : HallState
  cause : HallCause
  purged : Bool
  purgeTimer : Option Nat
  purgeTime : Nat
  silenceTime : Nat
  summaryPeriod : Nat
  summaryTimer : Option Nat
deriving DecidableEq, Repr

/-! ## Host link (chapter 10) -/

/-- R168: a receiver; FRAME holds the bytes collected after the lead byte. -/
inductive Receiver where
  | hunt
  | frame (got : List Byte)
deriving DecidableEq, Repr

structure Receivers where
  host : Receiver
  gantry : Vector Receiver 4
  crane : ByCrane Receiver
deriving DecidableEq, Repr

/-- R172, R173: pending flag, occurrence count and enable of one notice class. -/
structure Notice where
  pending : Bool
  count : Nat
  enabled : Bool
deriving DecidableEq, Repr

inductive RestartCause where
  | powerOn | resetPin | hallReset
deriving DecidableEq, Repr

/-- R176: the link statistics. -/
structure LinkStats where
  good : Nat
  crcErrors : Nat
  lengthErrors : Nat
  overruns : Nat
  silences : Nat
deriving DecidableEq, Repr

structure Link where
  stats : LinkStats
  replies : List Frame
  notices : Vector Notice 18
  master : Bool
  sequence : Byte
  restart : RestartCause
  rate : LinkRate
  /-- R174: the frame being sent, none when the transmitter is idle. -/
  sending : Option Frame
  silenceTimer : Option Nat
  silent : Bool
  /-- R165: ms since the last valid frame, saturating at 65 535. -/
  sinceFrame : Nat
deriving DecidableEq, Repr

/-! ## What the block sends -/

inductive MoveKind where
  | travel | cutLine | cutArc
deriving DecidableEq, Repr

inductive TorchMode where
  | cut | mark
deriving DecidableEq, Repr

/-- R48: the messages from the part to a gantry. -/
inductive GantryMessage where
  | move (seq : Byte) (kind : MoveKind) (x y feed : Nat) (setpoint : Option Nat)
      (arc : Option (Int × Int × Direction))
  | torchOn (current : Nat) (mode : TorchMode)
  | torchOff
  | heightHold (on : Bool)
  | markText (seq : Byte) (text : List Byte) (height : Nat)
  | halt
  | rest
deriving DecidableEq, Repr

/-- R136: the messages from the part to a crane. -/
inductive CraneMessage where
  | goto (position : Nat)
  | hoistPick
  | hoistSet
  | halt
deriving DecidableEq, Repr

/-- One message that left the part. -/
inductive Sent where
  | host (f : Frame)
  | gantry (g : Gantry) (m : GantryMessage)
  | crane (c : CraneId) (m : CraneMessage)
deriving DecidableEq, Repr

/-- The whole machine. -/
structure State where
  link : Link
  receivers : Receivers
  hall : Hall
  lines : Vector Line 16
  bayTable : BayTable
  channels : Vector Channel 4
  monitors : Vector Monitor 4
  budget : Budget
  composer : Composer
  remnants : RemnantTable
  dispatcher : Dispatcher
  cranes : ByCrane Crane
  /-- The MODEL's own: every message sent on the seven ports, oldest first. -/
  sent : List Sent
  /-- The commands that wait, first in, first out. -/
  pending : List Instr
deriving DecidableEq, Repr

/-- No command of this block stops it: every row of the table is answered with a next state, so this type is empty. -/
inductive Fault where
deriving DecidableEq, Repr

/-- Why a command is refused by the model. -/
inductive Refusal where
  /-- Raised by exec for a row that has no meaning yet; safe (the machine stops where the hardware goes on). -/
  | notModelled (mnemonic : String)
deriving DecidableEq, Repr

/-! ## Reset values -/

/-- R4: a bay record after reset. -/
def Bay.reset : Bay :=
  ⟨.empty, none, none, none, [], false, .none, 0, 0, 0⟩

/-- R1: the layout after reset. -/
def Layout.reset : Layout where
  runwayEnd := 120000
  bays := #v[⟨6000, 18000⟩, ⟨18500, 30500⟩, ⟨31000, 43000⟩, ⟨43500, 55500⟩, ⟨56000, 68000⟩, ⟨68500, 80500⟩,
    ⟨81000, 93000⟩, ⟨93500, 105500⟩]
  intake := 2500
  racks := #v[108500, 111000, 113500, 116000]
  offload := 118500

def BayTable.reset : BayTable where
  bays := Vector.replicate 8 Bay.reset
  readerK := 4
  readerN := 5
  misdirected := 0
  changed := []
  layout := Layout.reset

/-- R61: the default arc parameters. -/
def ArcParams.reset : ArcParams := ⟨80, 48, 48, 10, 2000, 2⟩

/-- R24: a channel record after reset. -/
def Channel.reset : Channel where
  state := .idle
  heldCause := none
  bay := none
  buffer := []
  window := []
  frozen := false
  haltTimer := none
  dwellTimer := none
  checkTimer := none
  inProgress := .none
  reentry := false
  endConsumed := false
  pierceConsumed := false
  path := none
  nextSeq := 0
  params := ArcParams.reset
  milestoneCode := 0
  milestoneCount := 0
  lastEnd := none
  gantryTimer := none
  gantryCode := 0
  stepsDone := 0
  pierces := 0
  repierces := 0
  starvations := 0
  bufferFull := 0
  clamps := 0
  strays := 0

/-- R50: a monitor record after reset. -/
def Monitor.reset : Monitor where
  arc := .dark
  setpoint := none
  purpose := none
  goodCount := 0
  samples := []
  badCount := 0
  strikeTimer := none
  retryCount := 0
  heightHold := false
  params := ArcParams.reset
  classified := 0
  discarded := 0
  clamped := 0
  retriesMade := 0
  strikeFailures := 0
  disturbances := 0
  losses := 0

/-- R64: the budget record after reset. -/
def Budget.reset : Budget where
  bookings := Vector.replicate 4 ⟨.none, 0⟩
  total := 0
  limit := 600
  high := 500
  low := 400
  surge := 150
  causes := ⟨false, some .park⟩
  waitList := []
  immediate := 0
  fromList := 0
  joins := 0
  clampedRaises := 0
  impossible := 0
  gateClosings := 0

/-- R81, R91, R95. -/
def Composer.reset : Composer := ⟨Vector.replicate 32 none, 0, [], none⟩

/-- R96: the remnant table after reset. -/
def RemnantTable.reset : RemnantTable where
  records := Vector.replicate 96 none
  margin := 20
  minDimension := 300
  agingPeriod := 1440
  expiryCount := 30
  agingTimer := some (1440 * 60000)
  expired := []
  expiries := 0

/-- R134: the crane and dispatch settings after reset. -/
def CraneSettings.reset : CraneSettings where
  separation := 9000
  margin := 2000
  swl := ⟨25000, 25000⟩
  reach := ⟨[0, 1, 2, 3, 4, 5, 6, 7, 8, 9, 10, 11, 12, 13], [0, 1, 2, 3, 4, 5, 6, 7, 8, 9, 10, 11, 12, 13]⟩
  mode := .nearest
  preference := #v[.c1, .c1, .c1, .c1, .c1, .c2, .c2, .c2, .c2, .c2, .c2, .c2, .c2, .c2]
  urgentLimit := 4
  agingTime := 0
  park := ⟨0, 120000⟩

/-- R115, R116, R128, R133. -/
def Dispatcher.reset : Dispatcher where
  orders := []
  urgent := []
  normal := []
  urgentRun := 0
  counter := 1
  history := []
  settings := CraneSettings.reset
  accepted := 0
  refused := 0
  done := 0
  cancelled := 0
  failed := 0
  promotions := 0
  dispatches := 0
  passDue := false

/-- R135: a crane record after reset, at its park position. -/
def Crane.reset (park : Nat) : Crane where
  state := .offline
  position := park
  target := none
  goal := none
  order := none
  hook := none
  hookLoaded := false
  drive := 0
  waitCause := none
  stopCause := none
  withdrawn := false
  hoistTimer := none
  silenceTimer := none
  lastEnded := none
  offlineEntries := 0
  clippedTargets := 0
  strays := 0
  separationFaults := 0
  clip := none

/-- R152: a line record after reset; the filtered level takes the level at the input. -/
def Line.reset (input : Level) : Line where
  function := .general
  activeLevel := .high
  filterTime := 10
  edge := .both
  filtered := input
  filterTimer := none
  latch := false
  changes := 0
  glitches := 0
  input := input

/-- R158: the hall record after reset. -/
def Hall.reset : Hall where
  state := .park
  cause := .reset
  purged := false
  purgeTimer := none
  purgeTime := 20
  silenceTime := 0
  summaryPeriod := 0
  summaryTimer := none

def Receivers.reset : Receivers where
  host := .hunt
  gantry := Vector.replicate 4 .hunt
  crane := ⟨.hunt, .hunt⟩

/-- R172, R173, R174, R176: the host link after power-on or the reset pin: every count cleared, every enable on, then
RESTART marked with the cause. -/
def Link.reset (cause : RestartCause) (rate : LinkRate) : Link where
  stats := ⟨0, 0, 0, 0, 0⟩
  replies := []
  notices := put (Vector.replicate 18 ⟨false, 0, true⟩) 0 ⟨true, 1, true⟩
  master := true
  sequence := 0
  restart := cause
  rate := rate
  sending := none
  silenceTimer := none
  silent := false
  sinceFrame := 0

/-- The whole machine after a power-on or reset pin that samples these straps and finds these input levels. -/
def State.fresh (cause : RestartCause) (rate : LinkRate) (inputs : Vector Level 16) : State where
  link := Link.reset cause rate
  receivers := Receivers.reset
  hall := Hall.reset
  lines := Vector.ofFn (fun i => Line.reset (inputs.get i))
  bayTable := BayTable.reset
  channels := Vector.replicate 4 Channel.reset
  monitors := Vector.replicate 4 Monitor.reset
  budget := Budget.reset
  composer := Composer.reset
  remnants := RemnantTable.reset
  dispatcher := Dispatcher.reset
  cranes := ⟨Crane.reset 0, Crane.reset 120000⟩
  sent := []
  pending := []

/-- The machine right after power-on. The manual gives no level for the pins: all lines LOW and the straps at 230 400 bit/s
are the model's (DESIGN CHOICE, unsafe, notes/assumptions/4). -/
def State.reset : State := State.fresh .powerOn .slow (Vector.replicate 16 .low)

end Sys2Proof.Machine
end

