-- ==== Sys2Proof/Machine/Ops.lean ====
section
/-! DEFINITION. Named reads and updates of the blocks: one cell of one table, one message sent, one notice class marked. -/

namespace Sys2Proof.Machine

/-! ## The numbered things -/

def allChannels : List Gantry := [0, 1, 2, 3]
def allBays : List BayIx := [0, 1, 2, 3, 4, 5, 6, 7]
def allLines : List LineIx := [0, 1, 2, 3, 4, 5, 6, 7, 8, 9, 10, 11, 12, 13, 14, 15]
def allHeats : List HeatIx := List.finRange 32
def allRemnants : List RemnantIx := List.finRange 96
def allCranes : List CraneId := [.c1, .c2]

/-- R4: bay b belongs to gantry (b + 1) / 2, numbered from 1. -/
def gantryOfBay (b : BayIx) : Gantry := ⟨b.val / 2, by omega⟩

def ByCrane.get {α : Type} (v : ByCrane α) : CraneId → α
  | .c1 => v.c1
  | .c2 => v.c2

def ByCrane.put {α : Type} (v : ByCrane α) (c : CraneId) (x : α) : ByCrane α :=
  match c with
  | .c1 => { v with c1 := x }
  | .c2 => { v with c2 := x }

/-! ## Reading a block -/

def State.bay (s : State) (b : BayIx) : Bay := s.bayTable.bays.get b
def State.channel (s : State) (g : Gantry) : Channel := s.channels.get g
def State.monitor (s : State) (g : Gantry) : Monitor := s.monitors.get g
def State.booking (s : State) (g : Gantry) : Booking := s.budget.bookings.get g
def State.line (s : State) (l : LineIx) : Line := s.lines.get l
def State.heat (s : State) (h : HeatIx) : Option Heat := s.composer.heats.get h
def State.remnant (s : State) (i : RemnantIx) : Option Remnant := s.remnants.records.get i
def State.crane (s : State) (c : CraneId) : Crane := s.cranes.get c
def State.settings (s : State) : CraneSettings := s.dispatcher.settings
def State.layout (s : State) : Layout := s.bayTable.layout

/-- The open order of a number. -/
def State.order (s : State) (n : Nat) : Option Order := s.dispatcher.orders.find? (fun o => o.number == n)

/-! ## Updating one cell -/

def State.modBayTable (s : State) (f : BayTable → BayTable) : State := { s with bayTable := f s.bayTable }
def State.modBay (s : State) (b : BayIx) (f : Bay → Bay) : State :=
  s.modBayTable (fun t => { t with bays := put t.bays b (f (t.bays.get b)) })
def State.modChannel (s : State) (g : Gantry) (f : Channel → Channel) : State :=
  { s with channels := put s.channels g (f (s.channels.get g)) }
def State.modMonitor (s : State) (g : Gantry) (f : Monitor → Monitor) : State :=
  { s with monitors := put s.monitors g (f (s.monitors.get g)) }
def State.modBudget (s : State) (f : Budget → Budget) : State := { s with budget := f s.budget }
def State.modLine (s : State) (l : LineIx) (f : Line → Line) : State :=
  { s with lines := put s.lines l (f (s.lines.get l)) }
def State.modHall (s : State) (f : Hall → Hall) : State := { s with hall := f s.hall }
def State.modComposer (s : State) (f : Composer → Composer) : State := { s with composer := f s.composer }
/-- Changes a heat entry in use; a free entry stays free. -/
def State.modHeat (s : State) (h : HeatIx) (f : Heat → Heat) : State :=
  s.modComposer (fun c => { c with heats := put c.heats h ((c.heats.get h).map f) })
def State.modRemnants (s : State) (f : RemnantTable → RemnantTable) : State := { s with remnants := f s.remnants }
def State.setRemnant (s : State) (i : RemnantIx) (r : Option Remnant) : State :=
  s.modRemnants (fun t => { t with records := put t.records i r })
/-- Changes a remnant record that is not VACANT. -/
def State.modRemnant (s : State) (i : RemnantIx) (f : Remnant → Remnant) : State :=
  s.setRemnant i ((s.remnant i).map f)
def State.modDispatcher (s : State) (f : Dispatcher → Dispatcher) : State := { s with dispatcher := f s.dispatcher }
def State.modOrder (s : State) (n : Nat) (f : Order → Order) : State :=
  s.modDispatcher (fun d => { d with orders := d.orders.map (fun o => if o.number == n then f o else o) })
def State.modLink (s : State) (f : Link → Link) : State := { s with link := f s.link }
def State.modStats (s : State) (f : LinkStats → LinkStats) : State :=
  s.modLink (fun l => { l with stats := f l.stats })
/-- Changes a crane's record where no notice is due. -/
def State.modCrane (s : State) (c : CraneId) (f : Crane → Crane) : State :=
  { s with cranes := s.cranes.put c (f (s.cranes.get c)) }

/-! ## Receivers -/

def Receivers.get (r : Receivers) : Port → Receiver
  | .host => r.host
  | .gantry g => r.gantry.get g
  | .crane c => r.crane.get c

def Receivers.set (r : Receivers) (p : Port) (x : Receiver) : Receivers :=
  match p with
  | .host => { r with host := x }
  | .gantry g => { r with gantry := put r.gantry g x }
  | .crane c => { r with crane := r.crane.put c x }

def State.setReceiver (s : State) (p : Port) (x : Receiver) : State :=
  { s with receivers := s.receivers.set p x }

/-! ## Sending -/

def State.emit (s : State) (m : Sent) : State := { s with sent := s.sent ++ [m] }
def State.tellGantry (s : State) (g : Gantry) (m : GantryMessage) : State := s.emit (.gantry g m)
def State.tellCrane (s : State) (c : CraneId) (m : CraneMessage) : State := s.emit (.crane c m)

/-! ## Notice classes (R172) -/

inductive NoticeClass where
  | restart
  | hall
  | channelEnd (g : Gantry)
  | channelEvent (g : Gantry)
  | crane (c : CraneId)
  | budget
  | bay
  | field
  | mark
  | remnant
  | summary
deriving DecidableEq, Repr

/-- The class number of R172 less 1. -/
def NoticeClass.index : NoticeClass → Fin 18
  | .restart => 0
  | .hall => 1
  | .channelEnd g => ⟨2 + g.val, by omega⟩
  | .channelEvent g => ⟨6 + g.val, by omega⟩
  | .crane .c1 => 10
  | .crane .c2 => 11
  | .budget => 12
  | .bay => 13
  | .field => 14
  | .mark => 15
  | .remnant => 16
  | .summary => 17

/-- R172: the classes in transmit priority, class 1 first. -/
def allNotices : List NoticeClass :=
  [.restart, .hall, .channelEnd 0, .channelEnd 1, .channelEnd 2, .channelEnd 3, .channelEvent 0, .channelEvent 1,
   .channelEvent 2, .channelEvent 3, .crane .c1, .crane .c2, .budget, .bay, .field, .mark, .remnant, .summary]

def State.notice (s : State) (k : NoticeClass) : Notice := s.link.notices.get k.index

def State.modNotice (s : State) (k : NoticeClass) (f : Notice → Notice) : State :=
  s.modLink (fun l => { l with notices := put l.notices k.index (f (l.notices.get k.index)) })

/-- R172: each marking sets the pending flag and adds 1 to the occurrence count, whatever the enable. -/
def State.mark (s : State) (k : NoticeClass) : State :=
  s.modNotice k (fun n => { n with pending := true, count := bump8 n.count })

/-- R172: the flag and count of a class are cleared, with the set or fields it carries. -/
def State.clearNotice (s : State) (k : NoticeClass) : State :=
  let s := s.modNotice k (fun n => { n with pending := false, count := 0 })
  match k with
  | .bay => s.modBayTable (fun t => { t with changed := [] })
  | .remnant => s.modRemnants (fun t => { t with expired := [] })
  | .crane c => s.modCrane c (fun k => { k with lastEnded := none })
  | _ => s

/-! ## Link -/

/-- R168, R160: a valid host frame is counted, restarts the silence timer and ends a silence. -/
def State.hostFrameTaken (s : State) : State :=
  (s.setReceiver .host .hunt).modLink (fun l =>
    { l with
      stats := { l.stats with good := bump l.stats.good }
      silenceTimer := if s.hall.silenceTime = 0 then none else some (s.hall.silenceTime * 1000)
      silent := false
      sinceFrame := 0 })

/-- R170: a reply joins the tail of the reply queue. -/
def State.queueReply (s : State) (f : Frame) : State :=
  s.modLink (fun l => { l with replies := l.replies ++ [f] })

/-- R49: a valid gantry frame makes the gantry present and restarts its silence timer. -/
def State.gantryFrameTaken (s : State) (g : Gantry) : State :=
  (s.setReceiver (.gantry g) .hunt).modChannel g (fun c => { c with gantryTimer := some Config.gantrySilenceTime })

/-- R137: a valid crane frame restarts the crane's silence timer. -/
def State.craneFrameTaken (s : State) (c : CraneId) : State :=
  (s.setReceiver (.crane c) .hunt).modCrane c (fun k => { k with silenceTimer := some Config.craneSilenceTime })

/-- R48: a gantry frame counted as stray and discarded. -/
def State.gantryStray (s : State) (g : Gantry) : State := s.modChannel g (fun c => { c with strays := bump c.strays })

/-- R136: a crane frame counted as stray and ignored. -/
def State.craneStray (s : State) (c : CraneId) : State := s.modCrane c (fun k => { k with strays := bump k.strays })

/-! ## One crane's state (R135) -/

/-- Every change of a crane's state, wait cause or stop cause is made here: it marks the crane's CRANE class (R135), and a
change of state calls for a dispatch pass (R127). -/
def State.updateCrane (s : State) (c : CraneId) (f : Crane → Crane) : State :=
  let old := s.crane c
  let new := f old
  let s := s.modCrane c f
  let s := if new.state = old.state ∧ new.waitCause = old.waitCause ∧ new.stopCause = old.stopCause then s
    else s.mark (.crane c)
  if new.state = old.state then s else s.modDispatcher (fun d => { d with passDue := true })

/-- R127: a dispatch pass is due before the command ends. -/
def State.callPass (s : State) : State := s.modDispatcher (fun d => { d with passDue := true })

/-! ## Timers -/

/-- One ms off a running timer; a timer that has run out waits at 0 for its expiry, which is a command of its own. -/
def tickDown (t : Option Nat) : Option Nat := t.map (· - 1)

/-- A running timer's remaining time, 0 when it is stopped. -/
def remaining (t : Option Nat) : Nat := t.getD 0

end Sys2Proof.Machine
end

