-- ==== Sys2Proof/Machine/Clock.lean ====
section
/-! DEFINITION. One millisecond of the part's clock: what step does on an empty queue (DESIGN CHOICE, notes/assumptions/5). Running
timers count down to 0 and wait there for their expiry, which is a command of its own. -/

namespace Sys2Proof.Machine

def Channel.tick (c : Channel) : Channel :=
  { c with
    haltTimer := tickDown c.haltTimer
    dwellTimer := tickDown c.dwellTimer
    checkTimer := tickDown c.checkTimer
    gantryTimer := tickDown c.gantryTimer }

def Crane.tick (k : Crane) : Crane :=
  { k with hoistTimer := tickDown k.hoistTimer, silenceTimer := tickDown k.silenceTimer }

/-- R115: the queued time counts while the order is QUEUED and saturates at 65 535 s. -/
def Order.tick (o : Order) : Order := { o with queuedMs := o.queuedMs.map (fun t => satAdd 65535999 t 1) }

/-- Every timer and time of the machine, one ms on. -/
def State.tick (s : State) : State :=
  { s with
    link := { s.link with silenceTimer := tickDown s.link.silenceTimer, sinceFrame := bump s.link.sinceFrame }
    hall := { s.hall with purgeTimer := tickDown s.hall.purgeTimer, summaryTimer := tickDown s.hall.summaryTimer }
    lines := s.lines.map (fun l => { l with filterTimer := tickDown l.filterTimer })
    channels := s.channels.map Channel.tick
    monitors := s.monitors.map (fun m => { m with strikeTimer := tickDown m.strikeTimer })
    remnants := { s.remnants with agingTimer := tickDown s.remnants.agingTimer }
    dispatcher := { s.dispatcher with orders := s.dispatcher.orders.map Order.tick }
    cranes := ⟨s.cranes.c1.tick, s.cranes.c2.tick⟩ }

end Sys2Proof.Machine
end

