-- ==== Sys2Proof/Machine/Flags.lean ====
section
/-! DEFINITION. Everything the manual computes from the state instead of storing it: line states and aggregates, the gate, the
lit arc, the quiet hall, loads and intervals. -/

namespace Sys2Proof.Machine

/-! ## Field lines (R152, R155) -/

/-- R152: the filtered state is ACTIVE when the filtered level equals the active level. -/
def Line.active (l : Line) : Bool := l.filtered == l.activeLevel

/-- R155: the four kinds of aggregate. -/
inductive Aggregate where
  | guard (b : BayIx)
  | overload (c : CraneId)
  | hallStop
  | wake
deriving DecidableEq, Repr

/-- R155: the aggregate a function joins its line to; a GENERAL line joins none. -/
def LineFunction.aggregate : LineFunction → Option Aggregate
  | .general => none
  | .guard b => some (.guard b)
  | .overload c => some (.overload c)
  | .hallStop => some .hallStop
  | .wake => some .wake

/-- R155: an aggregate is active while any of its lines is ACTIVE; with no lines it is inactive. -/
def State.aggregate (s : State) (a : Aggregate) : Bool :=
  allLines.any (fun i => (s.line i).function.aggregate == some a && (s.line i).active)

def State.guardActive (s : State) (b : BayIx) : Bool := s.aggregate (.guard b)
def State.overloadActive (s : State) (c : CraneId) : Bool := s.aggregate (.overload c)
def State.hallStopActive (s : State) : Bool := s.aggregate .hallStop

/-! ## Gate, arcs, gantries -/

/-- R64: the gate is OPEN when its cause set is empty. -/
def GateCauses.isOpen (c : GateCauses) : Bool := !c.load && c.hall.isNone

/-- R51: the arc is lit when the monitor is STRIKING, STABLE or DISTURBED. -/
def Monitor.lit (m : Monitor) : Bool := m.arc != .dark

def State.lit (s : State) (g : Gantry) : Bool := (s.monitor g).lit

/-- R49: a gantry is present while its silence timer runs. -/
def Channel.gantryPresent (c : Channel) : Bool := c.gantryTimer.isSome

/-- R28, R25: a CUT step. -/
def Step.isCut : Step → Bool
  | .cutLine .. => true
  | .cutArc .. => true
  | _ => false

/-- R25: the cut current and voltage setpoint of a CUT step. -/
def Step.cut? : Step → Option (Nat × Nat)
  | .cutLine _ _ _ current setpoint => some (current, setpoint)
  | .cutArc _ _ _ _ _ _ current setpoint => some (current, setpoint)
  | _ => none

/-- R28: the CUT step that is the active entry, as current and setpoint. -/
def Channel.activeCut (c : Channel) : Option (Nat × Nat) :=
  match c.window with
  | ⟨_, .motion step, _, _⟩ :: _ => step.cut?
  | _ => none

/-! ## Hall -/

/-- R163: every channel IDLE, no crane with an order in hand, no crane STRANDED. -/
def State.quiet (s : State) : Bool :=
  allChannels.all (fun g => (s.channel g).state == .idle) &&
    allCranes.all (fun c => (s.crane c).order.isNone && (s.crane c).state != .stranded)

/-- R29, R43: the hall is in RUN or PURGE. -/
def State.hallWorks (s : State) : Bool := s.hall.state == .run || s.hall.state == .purge

/-! ## Layout (R1, R2) -/

/-- R1: the centre of a bay. -/
def Interval.centre (i : Interval) : Nat := (i.first + i.last) / 2

/-- R2: the widened interval of a bay, both ends included. -/
def Layout.widened (l : Layout) (margin : Nat) (b : BayIx) : Int × Int :=
  ((l.bays.get b).first - (margin : Int), (l.bays.get b).last + (margin : Int))

def inside (p : Nat) (i : Int × Int) : Bool := i.1 ≤ p && (p : Int) ≤ i.2

/-- R1: the non-bay place positions. -/
def Layout.otherPlaces (l : Layout) : List Nat := l.intake :: l.racks.toList ++ [l.offload]

/-- R2: the layout condition, with the margin and park positions given. -/
def Layout.condition (l : Layout) (margin : Nat) (park : ByCrane Nat) : Bool :=
  allBays.all (fun b => decide ((l.bays.get b).first ≤ l.runwayEnd) && decide ((l.bays.get b).last ≤ l.runwayEnd)) &&
    (l.otherPlaces ++ [park.c1, park.c2]).all (fun p => decide (p ≤ l.runwayEnd)) &&
    allBays.all (fun a => allBays.all (fun b =>
      a == b || decide ((l.bays.get a).last < (l.bays.get b).first) ||
        decide ((l.bays.get b).last < (l.bays.get a).first))) &&
    allBays.all (fun b => l.otherPlaces.all (fun p => !inside p (l.widened margin b))) &&
    allBays.all (fun a => allBays.all (fun b => a == b || !inside (l.bays.get a).centre (l.widened margin b)))

/-- R1: the position of a place; a hook has the position of its crane and is not asked for here. -/
def Layout.position (l : Layout) : Site → Nat
  | .hook => 0
  | .intake => l.intake
  | .bay b => (l.bays.get b).centre
  | .rack s => l.racks.get s.rack
  | .offload => l.offload

/-! ## Cranes and orders -/

/-- R135: a crane is loaded when its hook load record is present. -/
def Crane.loaded (k : Crane) : Bool := k.hook.isSome

/-- R115: the phase of an order in hand, kept through SUSPENDED. -/
def Order.phase (o : Order) : Option Phase :=
  match o.state with
  | .queued => none
  | .assigned => some .assigned
  | .lifting => some .lifting
  | .carrying => some .carrying
  | .lowering => some .lowering
  | .suspended => o.suspendedPhase

/-- The order state of a phase. -/
def Phase.state : Phase → OrderState
  | .assigned => .assigned
  | .lifting => .lifting
  | .carrying => .carrying
  | .lowering => .lowering

/-- R124: an order whose lift has not been reported; a DELIVER has its load on the hook from dispatch. -/
def Order.beforeLift (o : Order) : Bool :=
  match o.phase with
  | none => true
  | some .assigned => true
  | some .lifting => true
  | some .carrying => false
  | some .lowering => false

/-- The order a crane holds. -/
def State.orderInHand (s : State) (c : CraneId) : Option Order := (s.crane c).order.bind s.order

/-- R118: whether a crane choice allows a crane. -/
def CraneChoice.allows : CraneChoice → CraneId → Bool
  | .any, _ => true
  | .only c, d => c == d

/-- Place number less 1 of a site that is a place. -/
def Site.place : Site → Option PlaceIx
  | .hook => none
  | .intake => some 0
  | .bay b => some ⟨b.val + 1, by omega⟩
  | .rack s => some ⟨s.rack.val + 9, by omega⟩
  | .offload => some 13

/-- R121: a site is in a crane's reach set; the hook of a DELIVER is not tested. -/
def CraneSettings.reaches (t : CraneSettings) (c : CraneId) (site : Site) : Bool :=
  match site.place with
  | none => true
  | some p => (t.reach.get c).contains p

/-- R142: a loaded crane has its last reported position or last sent target inside bay b's widened interval. -/
def State.overhead (s : State) (b : BayIx) : Bool :=
  allCranes.any (fun c =>
    let k := s.crane c
    let w := s.layout.widened s.settings.margin b
    k.loaded && (inside k.position w || (k.target.map (fun t => inside t w)).getD false))

/-- R81, R18: a character of a heat code, 0-9 or A-Z. -/
def isCodeChar (c : Byte) : Bool := (0x30 ≤ c.toNat && c.toNat ≤ 0x39) || (0x41 ≤ c.toNat && c.toNat ≤ 0x5A)

/-! ## Remnant slots (R97) -/

/-- R97: the record that occupies a slot. -/
def State.occupant (s : State) (k : Slot) : Option RemnantIx :=
  allRemnants.find? (fun i => ((s.remnant i).bind (·.slot)) == some k)

/-- R97: a slot is claimed when an open order names it as its destination. -/
def State.slotClaimed (s : State) (k : Slot) : Bool := s.dispatcher.orders.any (fun o => o.dest == .rack k)

def State.slotFree (s : State) (k : Slot) : Bool := (s.occupant k).isNone && !s.slotClaimed k

/-- R100, R101: the lowest-numbered VACANT record. -/
def State.lowestVacant (s : State) : Option RemnantIx := allRemnants.find? (fun i => (s.remnant i).isNone)

/-- R82: the lowest-numbered free heat entry. -/
def State.lowestFreeHeat (s : State) : Option HeatIx := allHeats.find? (fun h => (s.heat h).isNone)

/-- R23: the mass of a load in kg. -/
def massOf (width length thickness : Nat) : Nat := (width * length * thickness * 7850 + 999999999) / 1000000000

end Sys2Proof.Machine
end

