-- ==== Sys2Proof/Machine/Operands.lean ====
section
/-! DEFINITION. How a request's body carries its fields (R171, R177) and which values are in range. A reader answers none for
a value outside its range; the request is then refused with BAD_FIELD. Lengths are tested before (R169). -/

namespace Sys2Proof.Machine

/-! ## Plain fields -/

/-- R171: the number in `width` bytes from byte `at`, low byte first. -/
def num (b : List Byte) (start width : Nat) : Nat := ofBytes ((b.drop start).take width)

/-- A number that lies in a range. -/
def within (lo hi n : Nat) : Option Nat := if lo ≤ n ∧ n ≤ hi then some n else none

/-- R171: a two-valued state, 1 or 0. -/
def flag? (n : Nat) : Option Bool := if n = 0 then some false else if n = 1 then some true else none

/-- R171: a thing numbered from 1. -/
def numbered (m n : Nat) : Option (Fin m) := if h : 1 ≤ n ∧ n ≤ m then some ⟨n - 1, by omega⟩ else none

/-- R171: a thing numbered from 0. -/
def indexed (m n : Nat) : Option (Fin m) := if h : n < m then some ⟨n, h⟩ else none

/-- R171: C1 is 1 and C2 is 2. -/
def crane? (n : Nat) : Option CraneId := if n = 1 then some .c1 else if n = 2 then some .c2 else none

/-- R171: a set of numbers 1..m as a bitmap read as one number; a bit above m is out of range. -/
def set? (m n : Nat) : Option (List (Fin m)) :=
  if n < 2 ^ m then some ((List.finRange m).filter (fun i => n.testBit i.val)) else none

/-- R82: a heat code. -/
def code? (c : List Byte) : Option Code := if c.length = 8 ∧ c.all isCodeChar then some c else none

/-- R177: `width` bits of a number as two's complement. -/
def signed (width n : Nat) : Int := if n < 2 ^ (width - 1) then (n : Int) else (n : Int) - (2 ^ width : Nat)

def signedWithin (lo hi n : Int) : Option Int := if lo ≤ n ∧ n ≤ hi then some n else none

/-- R169: bytes the layout leaves unused are 0. -/
def unused (b : List Byte) (start : Nat) : Option Unit := if (b.drop start).all (· == 0) then some () else none

/-! ## Steps (R25, R177) -/

def stepX (n : Nat) : Option Nat := within 0 160000 n
def stepY (n : Nat) : Option Nat := within 0 45000 n
def cutCurrent (n : Nat) : Option Nat := within 20 400 n
def cutSetpoint (n : Nat) : Option Nat := within 600 2500 n
def cutFeed (n : Nat) : Option Nat := within 10 40000 n

/-- R177: the four coordinates of a CUT_ARC, packed in bytes 1-9. -/
def arcCoordinates (b : List Byte) : Option (Nat × Nat × Int × Int) := do
  let n := num b 1 9
  let x ← stepX (n % 2 ^ 18)
  let y ← stepY (n / 2 ^ 18 % 2 ^ 16)
  let dx ← signedWithin (-160000) 160000 (signed 19 (n / 2 ^ 34 % 2 ^ 19))
  let dy ← signedWithin (-45000) 45000 (signed 17 (n / 2 ^ 53 % 2 ^ 17))
  if n / 2 ^ 70 = 0 then some (x, y, dx, dy) else none

/-- R25, R177: one step record of 16 bytes. Byte 0 holds the kind, with bit 4 the direction of a CUT_ARC. -/
def step? (b : List Byte) : Option Step :=
  match num b 0 1 with
  | 1 => do
    let x ← stepX (num b 1 3)
    let y ← stepY (num b 4 2)
    let feed ← within 0 40000 (num b 6 2)
    let _ ← unused b 8
    some (.travel x y feed)
  | 2 => do
    let current ← cutCurrent (num b 1 2)
    let setpoint ← cutSetpoint (num b 3 2)
    let dwell ← within 0 10000 (num b 5 2)
    let _ ← unused b 7
    some (.pierce current setpoint dwell)
  | 3 => do
    let x ← stepX (num b 1 3)
    let y ← stepY (num b 4 2)
    let feed ← cutFeed (num b 6 2)
    let current ← cutCurrent (num b 8 2)
    let setpoint ← cutSetpoint (num b 10 2)
    let _ ← unused b 12
    some (.cutLine x y feed current setpoint)
  | 4 => do
    let (x, y, dx, dy) ← arcCoordinates b
    let feed ← cutFeed (num b 10 2)
    let current ← cutCurrent (num b 12 2)
    let setpoint ← cutSetpoint (num b 14 2)
    some (.cutArc x y dx dy .cw feed current setpoint)
  | 20 => do
    let (x, y, dx, dy) ← arcCoordinates b
    let feed ← cutFeed (num b 10 2)
    let current ← cutCurrent (num b 12 2)
    let setpoint ← cutSetpoint (num b 14 2)
    some (.cutArc x y dx dy .ccw feed current setpoint)
  | 5 => do
    let _ ← unused b 1
    some .extinguish
  | 6 => do
    let x ← stepX (num b 1 3)
    let y ← stepY (num b 4 2)
    let part := num b 6 2
    let height ← within 5 50 (num b 8 1)
    let current ← within 5 40 (num b 9 1)
    let setpoint ← within 400 1500 (num b 10 2)
    let _ ← unused b 12
    some (.mark x y part height current setpoint)
  | 7 => do
    let _ ← unused b 3
    some (.milestone (num b 1 2))
  | 8 => do
    let line ← numbered 16 (num b 1 1)
    let active ← flag? (num b 2 1)
    let timeout ← within 1 600 (num b 3 2)
    let _ ← unused b 5
    some (.check line active timeout)
  | 9 => do
    let _ ← unused b 1
    some .finish
  | _ => none

/-- R26: `count` step records, one after another. -/
def steps? : Nat → List Byte → Option (List Step)
  | 0, _ => some []
  | n + 1, b => do
    let s ← step? (b.take 16)
    let rest ← steps? n (b.drop 16)
    some (s :: rest)

/-- R26: a STEPS body: the channel, the count 1..12 and the steps. -/
def stepsBody (b : List Byte) : Option (Gantry × List Step) := do
  let g ← numbered 4 (num b 0 1)
  let count ← within 1 12 (num b 1 1)
  let steps ← steps? count (b.drop 2)
  some (g, steps)

/-- R169: the body length of STEPS, with the count read from the body. -/
def stepsLength (b : List Byte) : Bool := 2 ≤ b.length && b.length == 2 + 16 * num b 1 1

/-! ## Bay table (R3, R13, R22) -/

/-- R1: one bay interval of a PLACES_SET. -/
def interval? (b : List Byte) (start : Nat) : Option Interval := do
  let first ← within 0 250000 (num b start 4)
  let last ← within 0 250000 (num b (start + 4) 4)
  if first < last then some ⟨first, last⟩ else none

/-- R3: a complete layout. -/
def layout? (b : List Byte) : Option Layout := do
  let runwayEnd ← within 40000 250000 (num b 0 4)
  let i1 ← interval? b 4
  let i2 ← interval? b 12
  let i3 ← interval? b 20
  let i4 ← interval? b 28
  let i5 ← interval? b 36
  let i6 ← interval? b 44
  let i7 ← interval? b 52
  let i8 ← interval? b 60
  let intake ← within 0 250000 (num b 68 4)
  let r1 ← within 0 250000 (num b 72 4)
  let r2 ← within 0 250000 (num b 76 4)
  let r3 ← within 0 250000 (num b 80 4)
  let r4 ← within 0 250000 (num b 84 4)
  let offload ← within 0 250000 (num b 88 4)
  some { runwayEnd, bays := #v[i1, i2, i3, i4, i5, i6, i7, i8], intake, racks := #v[r1, r2, r3, r4], offload }

/-- R13: the fields of BAY_DECLARE. -/
structure Declared where
  bay : BayIx
  heat : HeatIx
  thickness : Nat
  width : Nat
  length : Nat
deriving DecidableEq, Repr

def declared? (b : List Byte) : Option Declared := do
  let bay ← numbered 8 (num b 0 1)
  let heat ← indexed 32 (num b 1 1)
  let thickness ← within 3 150 (num b 2 1)
  let width ← within 500 4000 (num b 3 2)
  let length ← within 1000 16000 (num b 5 2)
  some { bay, heat, thickness, width, length }

/-! ## Arc parameters (R61) and budget values (R76) -/

/-- R61: the channel selector; none inside is all four. -/
def selector? (n : Nat) : Option (Option Gantry) := if n = 0 then some none else (numbered 4 n).map some

def arcParams? (b : List Byte) : Option ArcParams := do
  let band ← within 10 500 (num b 1 2)
  let stableCount ← within 16 255 (num b 3 1)
  let window ← within 16 64 (num b 4 1)
  let lossCount ← within 1 window (num b 5 1)
  let strikeTimeout ← within 500 5000 (num b 6 2)
  let strikeRetries ← within 0 3 (num b 8 1)
  some { band, stableCount, window, lossCount, strikeTimeout, strikeRetries }

/-- R76: L, H, Lo and P. -/
structure BudgetValues where
  limit : Nat
  high : Nat
  low : Nat
  surge : Nat
deriving DecidableEq, Repr

def budgetValues? (b : List Byte) : Option BudgetValues := do
  let limit ← within 100 2000 (num b 0 2)
  let high := num b 2 2
  let low := num b 4 2
  let surge ← within 100 250 (num b 6 1)
  if low < high ∧ high ≤ limit then some { limit, high, low, surge } else none

/-! ## Heats and traces (R82, R93) -/

structure HeatOpening where
  code : Code
  grade : Nat
  first : Nat
deriving DecidableEq, Repr

def heatOpening? (b : List Byte) : Option HeatOpening := do
  let code ← code? (b.take 8)
  let grade ← within 1 255 (num b 8 1)
  let first ← within 1 99999 (num b 9 4)
  some { code, grade, first }

/-- R93: start trace number and count. -/
def traceRange? (b : List Byte) : Option (Nat × Nat) := do
  let start ← within 1 4294967295 (num b 0 4)
  let count ← within 1 8 (num b 4 1)
  some (start, count)

/-! ## Remnants (R100, R101, R104, R111, R112) -/

def slot? (rack slot : Nat) : Option Slot := do
  let r ← numbered 4 rack
  let k ← numbered 24 slot
  some ⟨r, k⟩

structure RemnantEntry where
  slot : Slot
  heat : HeatIx
  grade : Nat
  thickness : Nat
  width : Nat
  length : Nat
  age : Nat
deriving DecidableEq, Repr

def remnantEntry? (b : List Byte) : Option RemnantEntry := do
  let slot ← slot? (num b 0 1) (num b 1 1)
  let heat ← indexed 32 (num b 2 1)
  let grade ← within 1 255 (num b 3 1)
  let thickness ← within 3 150 (num b 4 1)
  let width ← within 100 4000 (num b 5 2)
  let length ← within 100 16000 (num b 7 2)
  let age ← within 0 255 (num b 9 1)
  some { slot, heat, grade, thickness, width, length, age }

/-- R101: bay, width and length; both dimensions are 0 or both are in range. -/
def fromBay? (b : List Byte) : Option (BayIx × Nat × Nat) := do
  let bay ← numbered 8 (num b 0 1)
  let width := num b 1 2
  let length := num b 3 2
  if width = 0 ∧ length = 0 then some (bay, 0, 0) else do
    let w ← within 100 4000 width
    let l ← within 100 16000 length
    some (bay, w, l)

def reservation? (b : List Byte) : Option (RemnantIx × Nat) := do
  let i ← indexed 96 (num b 0 1)
  let tag ← within 1 65535 (num b 1 2)
  some (i, tag)

structure RemnantSettings where
  margin : Nat
  minDimension : Nat
  agingPeriod : Nat
  expiryCount : Nat
deriving DecidableEq, Repr

def remnantSettings? (b : List Byte) : Option RemnantSettings := do
  let margin ← within 0 100 (num b 0 1)
  let minDimension ← within 100 1000 (num b 1 2)
  let agingPeriod ← within 0 1440 (num b 3 2)
  let expiryCount ← within 1 255 (num b 5 1)
  some { margin, minDimension, agingPeriod, expiryCount }

structure RemnantSearch where
  grade : Nat
  thickness : Nat
  width : Nat
  length : Nat
  tag : Nat
deriving DecidableEq, Repr

def remnantSearch? (b : List Byte) : Option RemnantSearch := do
  let grade ← within 1 255 (num b 0 1)
  let thickness ← within 3 150 (num b 1 1)
  let width ← within 1 4000 (num b 2 2)
  let length ← within 1 16000 (num b 4 2)
  let tag ← within 0 65535 (num b 6 2)
  some { grade, thickness, width, length, tag }

/-! ## Orders (R117, R132) -/

def orderKind? : Nat → Option OrderKind
  | 0 => some .loadNew
  | 1 => some .loadRemnant
  | 2 => some .unloadToRack
  | 3 => some .unloadToOffload
  | 4 => some .restock
  | 5 => some .scrapRemnant
  | 6 => some .deliver
  | _ => none

def orderClass? : Nat → Option OrderClass
  | 0 => some .normal
  | 1 => some .urgent
  | _ => none

/-- R178: ANY 0, C1 1, C2 2. -/
def craneChoice? (n : Nat) : Option CraneChoice := if n = 0 then some .any else (crane? n).map .only

/-- R117: a place with its slot, which is 1..24 where the place is a rack and 0 elsewhere; place 0 is a hook. -/
def site? (place slot : Nat) : Option Site :=
  if 10 ≤ place ∧ place ≤ 13 then (slot? (place - 9) slot).map .rack
  else if slot ≠ 0 then none
  else if place = 0 then some .hook
  else if place = 1 then some .intake
  else if place = 14 then some .offload
  else (numbered 8 (place - 1)).map .bay

def Site.isBay : Site → Bool
  | .bay _ => true
  | _ => false

def Site.isRack : Site → Bool
  | .rack _ => true
  | _ => false

/-- R117: the sources a kind allows. -/
def OrderKind.allowsSource : OrderKind → Site → Bool
  | .loadNew, s => s == .intake
  | .loadRemnant, s => s.isRack
  | .unloadToRack, s => s.isBay
  | .unloadToOffload, s => s.isBay
  | .restock, s => s.isRack
  | .scrapRemnant, s => s.isRack
  | .deliver, s => s == .hook

/-- R117: the destinations a kind allows. -/
def OrderKind.allowsDest : OrderKind → Site → Bool
  | .loadNew, s => s.isBay
  | .loadRemnant, s => s.isBay
  | .unloadToRack, s => s.isRack
  | .unloadToOffload, s => s == .offload
  | .restock, s => s.isRack
  | .scrapRemnant, s => s == .offload
  | .deliver, s => s.isBay || s.isRack || s == .offload

structure Submission where
  kind : OrderKind
  cls : OrderClass
  choice : CraneChoice
  source : Site
  dest : Site
  heat : HeatIx
  thickness : Nat
  width : Nat
  length : Nat
deriving DecidableEq, Repr

/-- R117: the plate fields are in range for LOAD_NEW and all 0 for the other kinds. -/
def Submission.plateFieldsFit (u : Submission) : Bool :=
  match u.kind with
  | .loadNew =>
    (within 3 150 u.thickness).isSome && (within 500 4000 u.width).isSome && (within 1000 16000 u.length).isSome
  | _ => u.heat == 0 && u.thickness == 0 && u.width == 0 && u.length == 0

/-- R117: the fields of ORDER_SUBMIT, in range. -/
def submission? (b : List Byte) : Option Submission := do
  let kind ← orderKind? (num b 0 1)
  let cls ← orderClass? (num b 1 1)
  let choice ← craneChoice? (num b 2 1)
  let source ← site? (num b 3 1) (num b 4 1)
  let dest ← site? (num b 5 1) (num b 6 1)
  let heat ← indexed 32 (num b 7 1)
  let u : Submission :=
    { kind, cls, choice, source, dest, heat, thickness := num b 8 1, width := num b 9 2, length := num b 11 2 }
  if kind.allowsSource source ∧ kind.allowsDest dest ∧ u.plateFieldsFit ∧ ¬(kind = .deliver ∧ choice = .any) then some u
  else none

/-- R132: order number and new destination; INTAKE and a hook are no destinations. -/
def redirection? (b : List Byte) : Option (Nat × Site) := do
  let n ← within 1 65535 (num b 0 2)
  let dest ← site? (num b 2 1) (num b 3 1)
  if dest = .hook ∨ dest = .intake then none else some (n, dest)

/-! ## Crane settings (R134) -/

/-- R134: a non-empty set of places. -/
def reachSet? (n : Nat) : Option (List PlaceIx) := do
  let p ← set? 14 n
  if p = [] then none else some p

/-- R134: the aging time is 0 or 30..1 800 s. -/
def agingTime? (n : Nat) : Option Nat := if n = 0 then some 0 else within 30 1800 n

def choiceMode? : Nat → Option ChoiceMode
  | 0 => some .nearest
  | 1 => some .byPlace
  | _ => none

/-- R134: the preference table, one crane for each place 1..14. -/
def preference? (b : List Byte) : Option (Vector CraneId 14) := do
  let p1 ← crane? (num b 0 1)
  let p2 ← crane? (num b 1 1)
  let p3 ← crane? (num b 2 1)
  let p4 ← crane? (num b 3 1)
  let p5 ← crane? (num b 4 1)
  let p6 ← crane? (num b 5 1)
  let p7 ← crane? (num b 6 1)
  let p8 ← crane? (num b 7 1)
  let p9 ← crane? (num b 8 1)
  let p10 ← crane? (num b 9 1)
  let p11 ← crane? (num b 10 1)
  let p12 ← crane? (num b 11 1)
  let p13 ← crane? (num b 12 1)
  let p14 ← crane? (num b 13 1)
  some #v[p1, p2, p3, p4, p5, p6, p7, p8, p9, p10, p11, p12, p13, p14]

def craneSettings? (b : List Byte) : Option CraneSettings := do
  let separation ← within 2000 30000 (num b 0 2)
  let margin ← within 0 5000 (num b 2 2)
  let swl1 ← within 1000 60000 (num b 4 2)
  let swl2 ← within 1000 60000 (num b 6 2)
  let reach1 ← reachSet? (num b 8 2)
  let reach2 ← reachSet? (num b 10 2)
  let mode ← choiceMode? (num b 12 1)
  let preference ← preference? (b.drop 13)
  let urgentLimit ← within 1 8 (num b 27 1)
  let agingTime ← agingTime? (num b 28 2)
  let park1 ← within 0 250000 (num b 30 4)
  let park2 ← within 0 250000 (num b 34 4)
  some { separation, margin, swl := ⟨swl1, swl2⟩, reach := ⟨reach1, reach2⟩, mode, preference, urgentLimit, agingTime,
         park := ⟨park1, park2⟩ }

/-! ## Hall and lines (R156, R164) -/

structure HallTimes where
  purge : Nat
  silence : Nat
  summary : Nat
deriving DecidableEq, Repr

def hallTimes? (b : List Byte) : Option HallTimes := do
  let purge ← within 5 120 (num b 0 1)
  let silence ← within 0 60 (num b 1 1)
  let summary ← within 0 60 (num b 2 1)
  some { purge, silence, summary }

/-- R156: the function with its bay, used only with GUARD, and its crane, used only with OVERLOAD. -/
def lineFunction? (function bay crane : Nat) : Option LineFunction :=
  match function with
  | 0 => if bay = 0 ∧ crane = 0 then some .general else none
  | 1 => if crane = 0 then (numbered 8 bay).map .guard else none
  | 2 => if bay = 0 then (crane? crane).map .overload else none
  | 3 => if bay = 0 ∧ crane = 0 then some .hallStop else none
  | 4 => if bay = 0 ∧ crane = 0 then some .wake else none
  | _ => none

def latchEdge? : Nat → Option LatchEdge
  | 0 => some .enter
  | 1 => some .leave
  | 2 => some .both
  | _ => none

structure LineSetting where
  line : LineIx
  function : LineFunction
  activeLevel : Level
  filterTime : Nat
  edge : LatchEdge
deriving DecidableEq, Repr

def lineSetting? (b : List Byte) : Option LineSetting := do
  let line ← numbered 16 (num b 0 1)
  let function ← lineFunction? (num b 1 1) (num b 2 1) (num b 3 1)
  let high ← flag? (num b 4 1)
  let filterTime ← within 0 250 (num b 5 1)
  let edge ← latchEdge? (num b 6 1)
  some { line, function, activeLevel := if high then .high else .low, filterTime, edge }

/-! ## Host link (R172, R173) -/

/-- R173: the master enable and the set of enabled classes. -/
def noticeMask? (b : List Byte) : Option (Bool × List (Fin 18)) := do
  let master ← flag? (num b 0 1)
  let classes ← set? 18 (num b 1 3)
  some (master, classes)

end Sys2Proof.Machine
end

