-- ==== Sys2Proof/Machine/MarkOps.lean ====
section
/-! DEFINITION. The mark composer (chapter 5): reference counts, the mark string, serials and trace records. -/

namespace Sys2Proof.Machine

/-- R87: one reference more on a heat entry. -/
def State.addRef (s : State) (h : HeatIx) : State := s.modHeat h (fun e => { e with refs := e.refs + 1 })

/-- R87: one reference less on a heat entry. -/
def State.dropRef (s : State) (h : HeatIx) : State := s.modHeat h (fun e => { e with refs := e.refs - 1 })

/-- The heat code of a heat entry in use. -/
def State.heatCode (s : State) (h : HeatIx) : Option Code := (s.heat h).map (·.code)

/-! ## The mark string (R89) -/

/-- R89: the value of a character: 0-9 for the digits, 10-35 for the letters. -/
def charValue (c : Byte) : Nat := if c.toNat ≤ 0x39 then c.toNat - 0x30 else c.toNat - 0x41 + 10

/-- R89: a character of the alphabet 0-9, A-Z, #. -/
def checkChar (v : Nat) : Byte :=
  if v < 10 then BitVec.ofNat 8 (0x30 + v) else if v < 36 then BitVec.ofNat 8 (0x41 + (v - 10)) else 0x23

/-- R89: the weighted sum; the first character has the length as its weight and the last has 1. -/
def weightedSum : List Byte → Nat
  | [] => 0
  | c :: cs => charValue c * (cs.length + 1) + weightedSum cs

/-- R89: the check value. -/
def checkValue (cs : List Byte) : Nat := (37 - weightedSum cs % 37) % 37

/-- R89: the serial as five decimal digits with leading zeros. -/
def serialDigits (n : Nat) : List Byte :=
  [n / 10000 % 10, n / 1000 % 10, n / 100 % 10, n / 10 % 10, n % 10].map (fun d => BitVec.ofNat 8 (0x30 + d))

/-- R89: the sixteen characters of a mark: heat code, hyphen, serial, hyphen, check symbol. -/
def markString (code : Code) (serial : Nat) : List Byte :=
  code ++ [0x2D] ++ serialDigits serial ++ [0x2D, checkChar (checkValue (code ++ serialDigits serial))]

/-! ## Trace records (R91, R92, R94) -/

/-- R91: a new record takes the raised total as its number and joins the list, which keeps the latest 64. -/
def State.makeTrace (s : State) (r : TraceRecord) : State :=
  s.modComposer (fun c =>
    let all := c.trace ++ [r]
    { c with total := satAdd Config.traceTotalMax c.total 1, trace := all.drop (all.length - Config.traceSize) })

/-- R91: the number the next trace record carries. -/
def State.nextTraceNumber (s : State) : Nat := satAdd Config.traceTotalMax s.composer.total 1

/-- R94: a record with a final outcome marks the MARK class and is the one its notice carries. -/
def State.markOutcome (s : State) (r : TraceRecord) : State :=
  (s.modComposer (fun c => { c with lastMark := some r })).mark .mark

/-- R92: the heat entry of the plate in a channel's bay, with the bay. -/
def State.markedHeat (s : State) (g : Gantry) : Option (BayIx × HeatIx × Heat) := do
  let b ← (s.channel g).bay
  let p ← (s.bay b).plate
  let h ← s.heat p.heat
  some (b, p.heat, h)

/-- R90, R88: a mark settled without a serial makes a record whose outcome is final at once. -/
def State.traceWithoutSerial (s : State) (g : Gantry) (part : Nat) (outcome : TraceOutcome) : State :=
  match s.markedHeat g with
  | none => s
  | some (b, i, h) =>
    let r : TraceRecord :=
      { number := s.nextTraceNumber, channel := g, bay := b, heat := i, code := h.code, serial := none, part, outcome }
    (s.makeTrace r).markOutcome r

/-- R91: two records of the list are the same one: number, channel and the outcome WRITING agree. -/
def TraceRecord.sameWriting (r t : TraceRecord) : Bool :=
  t.number == r.number && t.channel == r.channel && t.outcome == .writing

/-- R90, R91: a WRITING record takes its final outcome where it stands in the list, and its heat entry counts it. -/
def State.settleTrace (s : State) (r : TraceRecord) (outcome : TraceOutcome) : State :=
  let final := { r with outcome := outcome }
  let s := s.modComposer (fun c =>
    { c with trace := c.trace.map (fun t => if r.sameWriting t then final else t) })
  let s := s.modHeat r.heat (fun e =>
    match outcome with
    | .marked => { e with made := e.made + 1 }
    | .markFailed => { e with failed := e.failed + 1 }
    | _ => e)
  s.markOutcome final

end Sys2Proof.Machine
end

