-- ==== Sys2Proof/Machine/BayOps.lean ====
section
/-! DEFINITION. The bay records (chapter 1): the changed-bay set, the reader's declarations and the comparison with the heat
code, and the ways a bay becomes EMPTY, PLACED or leaves BURNING. -/

namespace Sys2Proof.Machine

/-- R16: the bay joins the changed-bay set and the event marks the BAY class once. -/
def State.bayChanged (s : State) (b : BayIx) : State :=
  (s.modBayTable (fun t => { t with changed := insertAsc b t.changed })).mark .bay

/-- R8, R9, R13, R15: what is cleared when a plate comes or goes. -/
def Bay.clearReader (k : Bay) : Bay :=
  { k with claim := none, lastDeclared := none, history := [], comparePending := false, outcome := .none }

/-- R9, R10, R15: the bay becomes EMPTY. -/
def Bay.toEmpty (k : Bay) : Bay := { k.clearReader with state := .empty, plate := none }

/-- R8, R13: the bay becomes PLACED with a new plate record. -/
def Bay.toPlaced (k : Bay) (p : Plate) : Bay := { k.clearReader with state := .placed, plate := some p }

/-! ## Comparing a declared code with the heat code (R20, R21) -/

/-- R20: the states in which a declaration or a deferred comparison moves the bay. -/
def BayState.compares : BayState → Bool
  | .placed => true
  | .ready => true
  | .mismatch => true
  | _ => false

/-- R20: the PLACED, READY and MISMATCH rows. -/
def Bay.compare (k : Bay) (equal : Bool) : Bay :=
  { k with
    state := if equal then .ready else .mismatch
    plate := k.plate.map (fun p => { p with identity := if equal then .matched else .mismatched }) }

/-- R20: the declared code equals the heat code of the bay's plate. -/
def State.codeMatches (s : State) (b : BayIx) (code : Code) : Bool :=
  match (s.bay b).plate with
  | none => false
  | some p => s.heatCode p.heat == some code

/-- R21: the deferred comparison, where it is pending and the bay has entered a state that compares. -/
def State.deferredComparison (s : State) (b : BayIx) : State :=
  let k := s.bay b
  if k.comparePending && k.state.compares then
    let equal := (k.lastDeclared.map (s.codeMatches b)).getD true
    s.modBay b (fun k =>
      let k := if k.lastDeclared.isSome then k.compare equal else k
      { k with comparePending := false })
  else s

/-! ## Reads (R18, R19) -/

/-- R19: a read that is the newest of at least k equal codes, and not the code declared last, is a declaration. -/
def declaredCode (k : Nat) (history : List Read) (last : Option Code) : Option Code :=
  match history.getLast? with
  | some (.code c) => if k ≤ history.count (.code c) ∧ last ≠ some c then some c else none
  | _ => none

/-- R18: the read as the history keeps it. -/
def readOf (chars : List Byte) : Read := if chars.all isCodeChar then .code chars else .unreadable

/-- R18: the newest entry joins a history of at most n. -/
def appendRead (n : Nat) (history : List Read) (r : Read) : List Read :=
  (if n ≤ history.length then history.drop (history.length + 1 - n) else history) ++ [r]

/-- R19, R20: a declaration. -/
def State.declare (s : State) (b : BayIx) (code : Code) : State :=
  let equal := s.codeMatches b code
  (s.modBay b (fun k =>
    let k := { k with declarations := bump k.declarations, lastDeclared := some code }
    if k.state.compares then k.compare equal else { k with comparePending := true })).bayChanged b

/-- R18, R19: a read taken for a bay of its own gantry. -/
def State.takeRead (s : State) (b : BayIx) (chars : List Byte) : State :=
  let k := s.bay b
  if k.state = .empty ∨ k.state = .loading then
    s.modBay b (fun k => { k with readsDiscarded := bump k.readsDiscarded })
  else
    let history := appendRead s.bayTable.readerN k.history (readOf chars)
    let s := s.modBay b (fun k => { k with history, readsStored := bump k.readsStored })
    match declaredCode s.bayTable.readerK history k.lastDeclared with
    | some code => s.declare b code
    | none => s

/-! ## Claims and burns (R6, R7, R10, R11, R12) -/

/-- R6: an accepted order claims its EMPTY destination bay. -/
def State.claimDestBay (s : State) (b : BayIx) (n : Nat) : State :=
  (s.modBay b (fun k => { k with state := .loading, claim := some n })).bayChanged b

/-- R7: an accepted order claims its source bay. -/
def State.claimSourceBay (s : State) (b : BayIx) (n : Nat) : State :=
  (s.modBay b (fun k => { k with state := .unloading, claim := some n })).bayChanged b

/-- R10: a LOADING bay's claim ends without a set-down. -/
def State.releaseDestBay (s : State) (b : BayIx) (n : Nat) : State :=
  if (s.bay b).state = .loading ∧ (s.bay b).claim = some n then (s.modBay b Bay.toEmpty).bayChanged b else s

/-- R10, R21: an UNLOADING bay's claim ends without a lift: the saved prior state is taken again, with the deferred comparison;
the flag is cleared at an entry into PLACED and kept in CUT. -/
def State.releaseSourceBay (s : State) (b : BayIx) (n : Nat) (prior : BayState) : State :=
  if (s.bay b).state = .unloading ∧ (s.bay b).claim = some n then
    ((s.modBay b (fun k => { k with state := prior, claim := none })).deferredComparison b).bayChanged b
  else s

/-- R11: START makes the bay BURNING. -/
def State.startBurning (s : State) (b : BayIx) : State :=
  (s.modBay b (fun k => { k with state := .burning })).bayChanged b

/-- R12, R21: the bay leaves BURNING. -/
def State.leaveBurning (s : State) (b : BayIx) (complete pierceConsumed : Bool) : State :=
  let s :=
    if pierceConsumed then
      s.modBay b (fun k => { k with state := .cut, outcome := if complete then .complete else .incomplete })
    else (s.modBay b (fun k => { k with state := .ready, outcome := .none })).deferredComparison b
  s.bayChanged b

end Sys2Proof.Machine
end

