-- ==== Sys2Proof/Machine/RemnantOps.lean ====
section
/-! DEFINITION. The remnant table (chapter 6): dimensions, expiry, records that come, move and become VACANT. -/

namespace Sys2Proof.Machine

/-- R99: raw less twice the margin, in signed integers. -/
def usable (raw margin : Nat) : Int := (raw : Int) - 2 * (margin : Int)

/-- R99: the dimensions are too small under the margin and minimum dimension held. -/
def RemnantTable.tooSmall (t : RemnantTable) (width length : Nat) : Bool :=
  decide (usable width t.margin < t.minDimension) || decide (usable length t.margin < t.minDimension)

/-- R99: a record's dimensions as they are entered. -/
def Remnant.withDimensions (r : Remnant) (t : RemnantTable) (width length : Nat) : Remnant :=
  { r with
    rawWidth := width
    rawLength := length
    usableWidth := (usable width t.margin).toNat
    usableLength := (usable length t.margin).toNat }

/-- R109: the expiry test on one record: a STOCKED record whose age has reached the expiry count becomes EXPIRED, joins the
expired set, is counted and marks the REMNANT class. -/
def State.expiryTest (s : State) (i : RemnantIx) : State :=
  match s.remnant i with
  | some r =>
    if r.state = .stocked ∧ s.remnants.expiryCount ≤ r.age then
      ((s.setRemnant i (some { r with state := .expired })).modRemnants (fun t =>
        { t with expired := insertAsc i t.expired, expiries := bump t.expiries })).mark .remnant
    else s
  | none => s

/-- R108, R111: the expiry test on every STOCKED record, in ascending index order. -/
def State.expiryTests (s : State) : State := allRemnants.foldl State.expiryTest s

/-- R108: one aging period more for every STOCKED record. -/
def State.ageStocked (s : State) : State :=
  allRemnants.foldl (fun s i =>
    s.modRemnant i (fun r => if r.state = .stocked then { r with age := bump8 r.age } else r)) s

/-- R103: the record becomes VACANT and its heat loses a reference. -/
def State.vacate (s : State) (i : RemnantIx) : State :=
  match s.remnant i with
  | some r => (s.setRemnant i none).dropRef r.heat
  | none => s

/-- R111: the aging timer of a period in minutes. -/
def agingTimerOf (minutes : Nat) : Option Nat := if minutes = 0 then none else some (minutes * 60000)

/-! ## Moves by crane order (R105, R106, R107) -/

/-- R105: an accepted order calls its source record. -/
def State.callRemnant (s : State) (i : RemnantIx) : State := s.modRemnant i (fun r => { r with state := .called })

/-- R105: the order has ended before the lift: the record takes its saved prior state again, and a record restored to STOCKED
is tested for expiry. -/
def State.restoreRemnant (s : State) (i : RemnantIx) (prior : RemnantState) : State :=
  match s.remnant i with
  | some r =>
    if r.state = .called then (s.setRemnant i (some { r with state := prior })).expiryTest i else s
  | none => s

/-- R106: the lift makes the record MOVING on the order's crane. -/
def State.liftRemnant (s : State) (i : RemnantIx) (c : CraneId) : State :=
  s.modRemnant i (fun r => { r with state := .moving, slot := none, bay := none, crane := some c })

/-- R107: the set-down of a load that names the record, by its destination. -/
def State.landRemnant (s : State) (i : RemnantIx) : Site → State
  | .bay b => s.modRemnant i (fun r => { r with state := .inBay, bay := some b, crane := none })
  | .rack k => s.modRemnant i (fun r =>
      { r with state := .stocked, slot := some k, crane := none, age := 0, tag := none })
  | .offload => s.vacate i
  | .hook => s
  | .intake => s

/-! ## Searching (R112) -/

/-- R112: how a record fits: unturned, only turned, or not at all. -/
inductive Fit where
  | straight
  | turned
deriving DecidableEq, Repr

def Remnant.fit (r : Remnant) (width length : Nat) : Option Fit :=
  if width ≤ r.usableWidth ∧ length ≤ r.usableLength then some .straight
  else if length ≤ r.usableWidth ∧ width ≤ r.usableLength then some .turned
  else none

/-- R112: usable area. -/
def Remnant.area (r : Remnant) : Nat := r.usableWidth * r.usableLength

/-- R112: state, tag, grade and thickness of a candidate. -/
def Remnant.offered (r : Remnant) (grade thickness tag : Nat) : Bool :=
  (r.state == .stocked || (r.state == .reserved && tag != 0 && r.tag == some tag)) && r.grade == grade &&
    r.thickness == thickness

structure Candidate where
  index : RemnantIx
  record : Remnant
  fit : Fit
deriving DecidableEq, Repr

/-- R112: a candidate goes before those of larger area; at equal area the one already placed, of lower index, stays first. -/
def insertCandidate (k : Candidate) : List Candidate → List Candidate
  | [] => [k]
  | j :: js => if k.record.area < j.record.area then k :: j :: js else j :: insertCandidate k js

/-- R112: the candidates of the whole table, smallest usable area first and then lower index first. -/
def State.candidates (s : State) (grade thickness width length tag : Nat) : List Candidate :=
  allRemnants.foldl (fun found i =>
    match s.remnant i with
    | some r =>
      match r.offered grade thickness tag, r.fit width length with
      | true, some fit => insertCandidate ⟨i, r, fit⟩ found
      | _, _ => found
    | none => found) []

/-- R113: the number of records in a state. -/
def State.countRemnants (s : State) (k : Option RemnantState) : Nat :=
  allRemnants.countP (fun i => (s.remnant i).map (·.state) == k)

end Sys2Proof.Machine
end

