-- ==== Sys2Proof/Machine/RunwayOps.lean ====
section
/-! DEFINITION. The runway controller (chapter 8): targets and their bounds, recomputation, stops, hoists, yields and parking. -/

namespace Sys2Proof.Machine

/-! ## Targets (R140) -/

/-- R140: what bounds a target from below and above; none is no bound of that kind. -/
structure Bounds where
  low : Int
  high : Int
  /-- The bound a burning bay sets, whichever side it is on. -/
  burning : Option Int
deriving DecidableEq, Repr

/-- The least of a list of integers, if any. -/
def leastOf : List Int → Option Int
  | [] => none
  | x :: xs => some (xs.foldl min x)

/-- The greatest of a list of integers, if any. -/
def greatestOf : List Int → Option Int
  | [] => none
  | x :: xs => some (xs.foldl max x)

/-- R140: a crane's last reported position and, when present, its last sent target. -/
def Crane.places (k : Crane) : List Int := (k.position : Int) :: (k.target.map (fun t => (t : Int))).toList

/-- R140: the widened intervals of BURNING bays that meet the stretch between two positions. -/
def State.burningBetween (s : State) (p n : Nat) : List (Int × Int) :=
  (allBays.filter (fun b => (s.bay b).state == .burning)).map (s.layout.widened s.settings.margin) |>.filter
    (fun w => decide (w.1 ≤ max (p : Int) n) && decide (min (p : Int) n ≤ w.2))

/-- R140: the burning-bay bound of a loaded crane at p making for n: on its east side when n is east of p, on its west side when
n is west of p. -/
def State.burningBound (s : State) (c : CraneId) (n : Nat) : Option Int :=
  let k := s.crane c
  if !k.loaded then none
  else if k.position < n then (leastOf ((s.burningBetween k.position n).map (·.1))).map (· - 1)
  else if n < k.position then (greatestOf ((s.burningBetween k.position n).map (·.2))).map (· + 1)
  else none

/-- R140: the separation bound that the other crane sets. -/
def State.separationBound (s : State) (c : CraneId) : Option Int :=
  let sep : Int := s.settings.separation
  match c with
  | .c1 => (leastOf (s.crane .c2).places).map (· - sep)
  | .c2 => (greatestOf (s.crane .c1).places).map (· + sep)

/-- R140: every bound on crane c's target for needed position n. -/
def State.bounds (s : State) (c : CraneId) (n : Nat) : Bounds :=
  let burning := s.burningBound c n
  let east := decide ((s.crane c).position < n)
  let lows := [0] ++ (if c = .c2 then (s.separationBound c).toList else []) ++ (if east then [] else burning.toList)
  let highs := [(s.layout.runwayEnd : Int)] ++ (if c = .c1 then (s.separationBound c).toList else [])
    ++ (if east then burning.toList else [])
  { low := (greatestOf lows).getD 0, high := (leastOf highs).getD 0, burning }

/-- R140: a target with the cause of its clip, none when it is the needed position. -/
structure Aim where
  target : Nat
  clip : Option WaitCause
deriving DecidableEq, Repr

/-- R140: the needed position held within every bound. Where the bounds exclude one another the manual states no target: a free
value (notes/assumptions/1). -/
def State.aim (s : State) (c : CraneId) (n : Nat) : Aim :=
  let b := s.bounds c n
  let target := if b.low ≤ b.high then (max b.low (min b.high n)).toNat else Config.openTarget b.low b.high n
  { target
    clip :=
      if target = n then none
      else if b.burning = some (target : Int) then some .burningBay
      else some .separationSpan }

/-- R140: GOTO to the crane's needed position, clipped; a clipped GOTO is counted. -/
def State.sendGoto (s : State) (c : CraneId) : State :=
  match (s.crane c).goal with
  | none => s
  | some g =>
    let a := s.aim c g.position
    (s.modCrane c (fun k =>
      { k with
        target := some a.target
        clip := a.clip
        clippedTargets := if a.clip.isSome then bump k.clippedTargets else k.clippedTargets })).tellCrane c (.goto a.target)

/-! ## Recomputation (R141) -/

/-- R141: the cranes whose target is computed anew. -/
def Crane.recomputes (k : Crane) : Bool :=
  k.state == .travel || k.state == .yielding ||
    (k.state == .wait && (k.waitCause == some .separationSpan || k.waitCause == some .burningBay))

/-- R141: one crane's target computed anew and taken at once as its last sent target. -/
def State.retarget (s : State) (c : CraneId) : State :=
  match (s.crane c).recomputes, (s.crane c).goal with
  | true, some g =>
    let a := s.aim c g.position
    s.modCrane c (fun k => { k with target := some a.target, clip := a.clip })
  | _, _ => s

/-- R141: C1 first, then C2, in turn until neither target changes. A crane is computed when it is due: at the event, or when the
other's target has changed. The two settle within three rounds wherever their bounds do not exclude one another; the fuel is
beyond that. -/
def State.retargetBoth : Nat → Bool → Bool → State → State
  | 0, _, _, s => s
  | n + 1, due1, due2, s =>
    if !due1 && !due2 then s
    else
      let s1 := if due1 then s.retarget .c1 else s
      let moved1 := (s1.crane .c1).target != (s.crane .c1).target
      let s2 := if due2 || moved1 then s1.retarget .c2 else s1
      let moved2 := (s2.crane .c2).target != (s1.crane .c2).target
      State.retargetBoth n moved2 false s2

/-- R141: after the targets have settled, a crane whose target has changed from the last GOTO is sent one, and a WAIT crane returns
to TRAVEL; a WAIT crane whose target is the same takes the cause of the new computation, and keeps its cause where the new
computation clips nothing (DESIGN CHOICE, notes/assumptions/66). -/
def State.settleTarget (s : State) (c : CraneId) (before : Option Nat) : State :=
  let k := s.crane c
  if k.target ≠ before then
    match k.target with
    | none => s
    | some t =>
      ((s.updateCrane c (fun k =>
        { k with
          state := if k.state = .wait then .travel else k.state
          waitCause := none
          clippedTargets := if k.clip.isSome then bump k.clippedTargets else k.clippedTargets }))).tellCrane c (.goto t)
  else if k.recomputes && k.state == .wait && k.clip.isSome then s.updateCrane c (fun k => { k with waitCause := k.clip })
  else s

/-- R141: the recomputation one event calls for; `due` says for which cranes the event itself calls. -/
def State.recompute (s : State) (due : ByCrane Bool) : State :=
  let t1 := (s.crane .c1).target
  let t2 := (s.crane .c2).target
  let s := State.retargetBoth 8 due.c1 due.c2 s
  (s.settleTarget .c1 t1).settleTarget .c2 t2

/-- The other crane's recomputation, at a change of this crane's position or target. -/
def State.recomputeOther (s : State) (c : CraneId) : State :=
  s.recompute ⟨c = .c2, c = .c1⟩

/-- R141, R142: both cranes' recomputation, at a bay that enters or leaves BURNING. -/
def State.recomputeAll (s : State) : State := s.recompute ⟨true, true⟩

/-! ## Stops (R147) -/

/-- R137, R147: an order in hand becomes SUSPENDED and keeps its phase. -/
def State.suspendOrder (s : State) (c : CraneId) : State :=
  match (s.crane c).order with
  | none => s
  | some n =>
    s.modOrder n (fun o =>
      match o.state with
      | .suspended => o
      | _ => { o with suspendedPhase := o.phase, state := .suspended })

/-- R147: a stop. An OFFLINE crane is not changed by it. -/
def State.stopCrane (s : State) (c : CraneId) (cause : StopCause) : State :=
  if (s.crane c).state = .offline then s
  else
    ((s.tellCrane c .halt).suspendOrder c).updateCrane c (fun k =>
      { k with state := .stopped, stopCause := some cause, waitCause := none, hoistTimer := none })

/-- R147: C2's last reported position less C1's is below S. -/
def State.tooClose (s : State) : Bool :=
  decide (((s.crane .c2).position : Int) - (s.crane .c1).position < s.settings.separation)

/-- R147: a crane that a separation fault has stopped already. -/
def Crane.separationStopped (k : Crane) : Bool := k.state == .stopped && k.stopCause == some .separation

/-- R147: a finding of the separation test counts while one of the two cranes is not yet STOPPED(SEPARATION). -/
def State.countSeparation (s : State) : State :=
  let count (k : Crane) : Crane := { k with separationFaults := bump k.separationFaults }
  if (s.crane .c1).separationStopped && (s.crane .c2).separationStopped then s
  else (s.modCrane .c1 count).modCrane .c2 count

/-- R147: the separation test of a position update: cranes found too close are both stopped, each time. -/
def State.separationTest (s : State) : State :=
  if s.tooClose then (s.countSeparation.stopCrane .c1 .separation).stopCrane .c2 .separation else s

/-- R136: a reported position, held to the runway end, with the separation test and the other crane's recomputation. -/
def State.reportPosition (s : State) (c : CraneId) (p : Nat) : State :=
  let taken := min p s.layout.runwayEnd
  let s := (s.modCrane c (fun k => { k with position := taken })).separationTest
  s.recomputeOther c

/-! ## Rest, parking and yields (R139, R150) -/

/-- R135: entry into IDLE, PARKED or STRANDED: needed position and purpose become absent. -/
def State.restCrane (s : State) (c : CraneId) (state : CraneState) : State :=
  s.updateCrane c (fun k => { k with state, goal := none, waitCause := none, stopCause := none })

/-- R150: a crane is sent to park. -/
def State.sendToPark (s : State) (c : CraneId) : State :=
  let s := s.modCrane c (fun k => { k with goal := some ⟨s.settings.park.get c, .park⟩ })
  ((s.sendGoto c).updateCrane c (fun k => { k with state := .travel, waitCause := none, stopCause := none })).recomputeOther c

/-- A crane becomes IDLE; in hall PARK it is then sent to park (R150). -/
def State.becomeIdle (s : State) (c : CraneId) : State :=
  let s := s.restCrane c .idle
  if s.hall.state = .park then s.sendToPark c else s

/-- R139: crane y is sent out of the way. -/
def State.sendYield (s : State) (y : CraneId) (position : Nat) : State :=
  let s := s.modCrane y (fun k => { k with goal := some ⟨position, .yield⟩ })
  (s.sendGoto y).updateCrane y (fun k => { k with state := .yielding })

/-! ## Work (R143, R144, R145) -/

/-- R143, R144: the crane makes for a place of its order. -/
def State.travelTo (s : State) (c : CraneId) (site : Site) : State :=
  let s := s.modCrane c (fun k => { k with goal := some ⟨s.layout.position site, .order⟩ })
  (s.sendGoto c).updateCrane c (fun k => { k with state := .travel, waitCause := none, stopCause := none })

/-- R143, R145: the crane hoists: HOIST_PICK or HOIST_SET is sent and the hoist timer starts at 120 s. -/
def State.hoist (s : State) (c : CraneId) (m : CraneMessage) : State :=
  (s.tellCrane c m).updateCrane c (fun k =>
    { k with state := .hoist, waitCause := none, stopCause := none, hoistTimer := some Config.hoistTime })

/-- R145: the guard of a set-down's bay is active. -/
def State.guardBlocks (s : State) : Site → Bool
  | .bay b => s.guardActive b
  | _ => false

/-- R145: the set-down of an order at its destination begins, or waits for the bay's guard. -/
def State.beginLowering (s : State) (c : CraneId) (dest : Site) : State :=
  if s.guardBlocks dest then
    s.updateCrane c (fun k => { k with state := .wait, waitCause := some .guard, stopCause := none })
  else s.hoist c .hoistSet

/-- R145: a guard that becomes inactive lets the cranes waiting for it set down. -/
def State.guardReleasesCrane (s : State) (b : BayIx) (c : CraneId) : State :=
  match s.orderInHand c with
  | some o =>
    if (s.crane c).state = .wait ∧ (s.crane c).waitCause = some .guard ∧ o.dest = .bay b then s.hoist c .hoistSet else s
  | none => s

/-- R145: a guard that becomes active halts a crane setting down at the bay. -/
def State.guardHaltsCrane (s : State) (b : BayIx) (c : CraneId) : State :=
  match s.orderInHand c with
  | some o =>
    if (s.crane c).state = .hoist ∧ o.state = .lowering ∧ o.dest = .bay b then
      (s.tellCrane c .halt).updateCrane c (fun k =>
        { k with state := .wait, waitCause := some .guard, hoistTimer := none })
    else s
  | none => s

/-- R146: a crane's overload becomes active. -/
def State.overloadBegins (s : State) (c : CraneId) : State :=
  let k := s.crane c
  let lifting := ((s.orderInHand c).map (fun o => o.state == .lifting)).getD false
  if k.state = .hoist ∧ lifting ∧ !k.withdrawn then
    (((s.tellCrane c .halt).tellCrane c .hoistSet)).modCrane c (fun k =>
      { k with withdrawn := true, hoistTimer := some Config.hoistTime })
  else if k.loaded then s.stopCrane c .overload
  else s

end Sys2Proof.Machine
end

