-- ==== Sys2Proof/Machine/OrderOps.lean ====
section
/-! DEFINITION. Crane orders (chapter 7): the tests of a submission, claims, the end of an order, and the dispatch pass. -/

namespace Sys2Proof.Machine

/-! ## Spans (R138) -/

def leastNat : Nat → List Nat → Nat := List.foldl min
def greatestNat : Nat → List Nat → Nat := List.foldl max

/-- R138: the places of an order that remain ahead of its crane. -/
def State.placesAhead (s : State) (o : Order) : List Nat :=
  match o.phase with
  | none => []
  | some .assigned => [s.layout.position o.source, s.layout.position o.dest]
  | some _ => [s.layout.position o.dest]

/-- R138: the span of a crane beside its last reported position. -/
def State.spanTail (s : State) (c : CraneId) : List Nat :=
  (s.crane c).target.toList ++ ((s.orderInHand c).map s.placesAhead).getD []

/-- R138: the three outcomes of the span test. -/
inductive SpanOutcome where
  | compatible
  | yields (position : Nat)
  | incompatible
deriving DecidableEq, Repr

/-- R138: the span test for crane x with the places it would make for. -/
def State.spanTest (s : State) (x : CraneId) (ahead : List Nat) : SpanOutcome :=
  let sep := s.settings.separation
  let y := x.other
  let px := (s.crane x).position
  let py := (s.crane y).position
  let idle := (s.crane y).state == .idle
  match x with
  | .c1 =>
    let edge := greatestNat px ahead + sep
    if edge ≤ leastNat py (s.spanTail y) then .compatible
    else if idle && decide (edge ≤ s.layout.runwayEnd) then .yields edge
    else .incompatible
  | .c2 =>
    let least := leastNat px ahead
    if greatestNat py (s.spanTail y) + sep ≤ least then .compatible
    else if idle && decide (sep ≤ least) then .yields (least - sep)
    else .incompatible

/-- R126, R138: the places a crane would make for with an order at its dispatch. -/
def State.dispatchPlaces (s : State) (o : Order) : List Nat :=
  match o.kind with
  | .deliver => [s.layout.position o.dest]
  | _ => [s.layout.position o.source, s.layout.position o.dest]

/-! ## Dispatch (R126-R130) -/

/-- R126: an order is eligible for a crane. -/
def State.eligibleFor (s : State) (o : Order) (c : CraneId) : Bool :=
  let k := s.crane c
  (match o.kind with
    | .deliver => o.crane == some c && k.state == .stranded
    | _ => k.state == .idle && o.choice.allows c) &&
  s.settings.reaches c o.source && s.settings.reaches c o.dest && decide (o.mass ≤ s.settings.swl.get c) &&
  s.spanTest c (s.dispatchPlaces o) != .incompatible

def State.eligible (s : State) (o : Order) : Bool := allCranes.any (s.eligibleFor o)

/-- R128: the oldest eligible order of a list. -/
def State.oldestEligible (s : State) (numbers : List Nat) : Option Order :=
  (numbers.filterMap s.order).find? s.eligible

/-- R128: the order chosen, with the urgent-run counter after. -/
def State.chooseOrder (s : State) : Option (Order × Nat) :=
  let d := s.dispatcher
  match s.oldestEligible d.urgent, s.oldestEligible d.normal with
  | some u, none => some (u, d.urgentRun)
  | some u, some n => if d.urgentRun < d.settings.urgentLimit then some (u, d.urgentRun + 1) else some (n, 0)
  | none, some n => some (n, 0)
  | none, none => none

def distance (a b : Nat) : Nat := max a b - min a b

/-- R129: the crane for the chosen order. -/
def State.chooseCrane (s : State) (o : Order) : CraneId :=
  match s.eligibleFor o .c1, s.eligibleFor o .c2 with
  | true, false => .c1
  | false, true => .c2
  | _, _ =>
    match s.settings.mode with
    | .nearest =>
      let p := s.layout.position o.source
      if distance (s.crane .c1).position p ≤ distance (s.crane .c2).position p then .c1 else .c2
    | .byPlace => (o.source.place.map s.settings.preference.get).getD .c1

/-- R130, R139, R143: the chosen order is dispatched to a crane: the yield the span test calls for is sent first, then the crane's
own GOTO, and the targets settle. -/
def State.assign (s : State) (o : Order) (c : CraneId) : State :=
  let outcome := s.spanTest c (s.dispatchPlaces o)
  let delivers := o.kind == .deliver
  let s := s.modDispatcher (fun d =>
    { d with urgent := d.urgent.filter (· != o.number), normal := d.normal.filter (· != o.number), dispatches := bump d.dispatches })
  let s := s.modOrder o.number (fun o =>
    { o with crane := some c, state := if delivers then .carrying else .assigned, queuedMs := none })
  let s := s.modCrane c (fun k => { k with order := some o.number })
  let s :=
    match outcome with
    | .yields position => s.sendYield c.other position
    | _ => s
  let s := s.travelTo c (if delivers then o.dest else o.source)
  s.recomputeAll.mark (.crane c)

/-- R127: the pass repeats the choice and the assignment; each takes one crane, so two are enough. -/
def State.passN : Nat → State → State
  | 0, s => s
  | n + 1, s =>
    match s.chooseOrder with
    | none => s
    | some (o, run) =>
      let c := s.chooseCrane o
      let s := s.modDispatcher (fun d => { d with urgentRun := run })
      State.passN n (s.assign o c)

/-- R127: a dispatch pass acts only in PURGE and RUN. -/
def State.dispatchPass (s : State) : State := if s.hallWorks then State.passN 2 s else s

/-- R127: the pass that the events of this command have called for, if any. -/
def State.runDuePass (s : State) : State :=
  if s.dispatcher.passDue then
    (s.modDispatcher (fun d => { d with passDue := false })).dispatchPass.modDispatcher (fun d => { d with passDue := false })
  else s

/-! ## Promotion (R125) -/

/-- R125: an order of the normal list moves to the tail of the urgent list. -/
def State.promote (s : State) (n : Nat) : State :=
  ((s.modDispatcher (fun d =>
    { d with
      normal := d.normal.filter (· != n)
      urgent := d.urgent ++ [n]
      promotions := bump d.promotions })).modOrder n (fun o => { o with promoted := true })).callPass

/-- R125: the orders of the normal list, oldest first, up to and including order n. -/
def Dispatcher.normalUpTo (d : Dispatcher) (n : Nat) : List Nat := d.normal.takeWhile (· != n) ++ [n]

/-- R125: the queued time of order n has reached the aging time. -/
def State.ageOrder (s : State) (n : Nat) : State :=
  s.modOrder n (fun o => { o with queuedMs := o.queuedMs.map (fun t => max t (s.settings.agingTime * 1000)) })

/-- R115: the queued time in whole seconds. -/
def Order.queuedTime (o : Order) : Nat := min 65535 (o.queuedMs.getD 0 / 1000)

/-- R125: every order of the normal list whose queued time reaches the aging time is promoted, oldest first. -/
def State.promoteDue (s : State) : State :=
  let aging := s.settings.agingTime
  if aging = 0 then s
  else
    (s.dispatcher.normal.filter (fun n => ((s.order n).map (fun o => decide (aging ≤ o.queuedTime))).getD false)).foldl
      State.promote s

/-! ## Submission tests (R118-R121) -/

/-- R170: the result codes. -/
inductive ResultCode where
  | ok | badLength | badType | badField | wrongState | bufferFull | queueFull | tableFull | unknownHeat | heatClosed | heatInUse
  | notQuiet | limitBelowLoad | stepExceedsLimit | slotOccupied | noCrane | overweight | bayOverhead | bayNotReady | orderLoaded
  | unknownOrder | remnantState | tooSmall | stopLineActive | bayClaimed | spanBlocked
deriving DecidableEq, Repr

/-- R6: the destination claim test of a bay. -/
def State.destBayTest (s : State) (b : BayIx) : ResultCode :=
  match (s.bay b).state with
  | .empty => .ok
  | .loading => .bayClaimed
  | .unloading => .bayClaimed
  | _ => .bayNotReady

/-- R7: the source claim test of a bay. -/
def State.sourceBayTest (s : State) (b : BayIx) : ResultCode :=
  match (s.bay b).state with
  | .placed => .ok
  | .ready => .ok
  | .mismatch => .ok
  | .cut => .ok
  | _ => .bayNotReady

/-- R98: the remnant states a kind takes from a rack. -/
def OrderKind.takes : OrderKind → RemnantState → Bool
  | .loadRemnant, r => r == .stocked || r == .reserved
  | .restock, r => r == .stocked || r == .expired
  | .scrapRemnant, r => r == .stocked || r == .expired
  | _, _ => false

/-- R98: the remnant source test of a slot. -/
def State.sourceSlotTest (s : State) (kind : OrderKind) (k : Slot) : ResultCode :=
  match (s.occupant k).bind s.remnant with
  | some r => if kind.takes r.state then .ok else .remnantState
  | none => .remnantState

/-- The first failure of two tests. -/
def ResultCode.andThen (a b : ResultCode) : ResultCode := if a = .ok then b else a

/-- R119: the heat test of LOAD_NEW and LOAD_REMNANT. -/
def State.heatTest (s : State) (u : Submission) : ResultCode :=
  match u.kind, u.source with
  | .loadNew, _ =>
    match s.heat u.heat with
    | none => .unknownHeat
    | some h => if h.state = .closed then .heatClosed else .ok
  | .loadRemnant, .rack k =>
    match ((s.occupant k).bind s.remnant).bind (fun r => s.heat r.heat) with
    | some h => if h.state = .closed then .heatClosed else .ok
    | none => .ok
  | _, _ => .ok

/-- R120: the crane a DELIVER names is STRANDED and no open DELIVER names it. -/
def State.hookTest (s : State) (choice : CraneChoice) : ResultCode :=
  match choice with
  | .any => .wrongState
  | .only c =>
    if (s.crane c).state = .stranded ∧ !s.dispatcher.orders.any (fun o => o.kind == .deliver && o.crane == some c) then .ok
    else .wrongState

/-- R120: the source tests. -/
def State.sourceTest (s : State) (u : Submission) : ResultCode :=
  match u.source with
  | .bay b =>
    (s.sourceBayTest b).andThen
      (if u.kind = .unloadToRack ∧ ((s.bay b).plate.bind (·.remnant)).isNone then .remnantState else .ok)
  | .rack k => s.sourceSlotTest u.kind k
  | .hook => s.hookTest u.choice
  | .intake => .ok
  | .offload => .ok

/-- R120: a rack takes only a load that names a remnant; tested for DELIVER and ORDER_REDIRECT. -/
def remnantLoadTest (load : Option LoadRecord) : ResultCode :=
  if (load.bind (·.remnant)).isSome then .ok else .remnantState

/-- R97: the destination slot test. -/
def State.destSlotTest (s : State) (k : Slot) : ResultCode := if s.slotFree k then .ok else .slotOccupied

/-- The hook load record of the crane a choice names. -/
def State.hookOf (s : State) : CraneChoice → Option LoadRecord
  | .any => none
  | .only c => (s.crane c).hook

/-- R120: the destination tests. -/
def State.destTest (s : State) (u : Submission) : ResultCode :=
  match u.dest with
  | .bay b => s.destBayTest b
  | .rack k =>
    (s.destSlotTest k).andThen (if u.kind = .deliver then remnantLoadTest (s.hookOf u.choice) else .ok)
  | _ => .ok

/-- R23: the mass of a load record, by its remnant record's raw dimensions where it names one. -/
def State.loadMass (s : State) (heatLess : Nat × Nat × Nat) (remnant : Option RemnantIx) : Nat :=
  match remnant.bind s.remnant with
  | some r => massOf r.rawWidth r.rawLength r.thickness
  | none => massOf heatLess.1 heatLess.2.1 heatLess.2.2

/-- R118: the mass of a submission's load. -/
def State.submissionMass (s : State) (u : Submission) : Nat :=
  match u.source with
  | .intake => massOf u.width u.length u.thickness
  | .rack k =>
    match (s.occupant k).bind s.remnant with
    | some r => massOf r.rawWidth r.rawLength r.thickness
    | none => 0
  | .bay b =>
    match (s.bay b).plate with
    | some p => s.loadMass (p.width, p.length, p.thickness) p.remnant
    | none => 0
  | .hook =>
    match s.hookOf u.choice with
    | some r => s.loadMass (r.width, r.length, r.thickness) r.remnant
    | none => 0
  | .offload => 0

/-- R121: the capability tests of steps 5 and 6. -/
def State.capabilityTest (s : State) (u : Submission) (mass : Nat) : ResultCode :=
  let allowed := allCranes.filter u.choice.allows
  let strong := allowed.filter (fun c => decide (mass ≤ s.settings.swl.get c))
  if strong.isEmpty then .overweight
  else if strong.any (fun c => s.settings.reaches c u.source && s.settings.reaches c u.dest) then .ok
  else .noCrane

/-- R118: the tests after the range test, in order. -/
def State.submissionTest (s : State) (u : Submission) : ResultCode :=
  if Config.queueSize ≤ s.dispatcher.orders.length then .queueFull
  else
    (s.heatTest u).andThen ((s.sourceTest u).andThen ((s.destTest u).andThen (s.capabilityTest u (s.submissionMass u))))

/-! ## Acceptance (R116, R122) -/

/-- R116: the counter's next number: past every number held by an open order. Seventeen advances always suffice. -/
def nextNumberN (open_ : List Nat) : Nat → Nat → Nat
  | 0, n => n
  | fuel + 1, n => if open_.contains n then nextNumberN open_ fuel (if n = 65535 then 1 else n + 1) else n

def nextNumber (open_ : List Nat) (n : Nat) : Nat := nextNumberN open_ 17 (if n = 65535 then 1 else n + 1)

/-- R105, R122: the load record built from a remnant record. -/
def Remnant.load (r : Remnant) (i : RemnantIx) : LoadRecord :=
  ⟨r.heat, r.grade, r.thickness, r.rawWidth, r.rawLength, some i⟩

/-- R122: the load record an accepted order holds from acceptance. -/
def State.acceptedLoad (s : State) (u : Submission) : Option LoadRecord :=
  match u.source with
  | .intake => (s.heat u.heat).map (fun h => ⟨u.heat, h.grade, u.thickness, u.width, u.length, none⟩)
  | .rack k => (s.occupant k).bind (fun i => (s.remnant i).map (fun r => r.load i))
  | .hook => s.hookOf u.choice
  | .bay _ => none
  | .offload => none

/-- R87: a load order, whose load record is a new record of its heat. -/
def OrderKind.carriesNewRecord : OrderKind → Bool
  | .loadNew => true
  | .loadRemnant => true
  | .restock => true
  | .scrapRemnant => true
  | _ => false

/-- R122: claims at the source. -/
def State.claimSource (s : State) (site : Site) (n : Nat) : State :=
  match site with
  | .bay b => s.claimSourceBay b n
  | .rack k =>
    match s.occupant k with
    | some i => s.callRemnant i
    | none => s
  | _ => s

/-- R122: claims at the destination; a slot is claimed by the open order itself (R97). -/
def State.claimDest (s : State) (site : Site) (n : Nat) : State :=
  match site with
  | .bay b => s.claimDestBay b n
  | _ => s

/-- R122: the saved prior states. -/
def State.priorBay (s : State) : Site → Option BayState
  | .bay b => some (s.bay b).state
  | _ => none

def State.priorRemnant (s : State) : Site → Option RemnantState
  | .rack k => ((s.occupant k).bind s.remnant).map (·.state)
  | _ => none

/-- R115, R122: the record of an order at its acceptance. -/
def State.newOrder (s : State) (u : Submission) (n : Nat) : Order where
  number := n
  kind := u.kind
  state := .queued
  suspendedPhase := none
  cls := u.cls
  promoted := false
  choice := u.choice
  source := u.source
  dest := u.dest
  load := s.acceptedLoad u
  mass := s.submissionMass u
  crane :=
    match u.kind, u.choice with
    | .deliver, .only c => some c
    | _, _ => none
  queuedMs := some 0
  priorBay := s.priorBay u.source
  priorRemnant := s.priorRemnant u.source

/-- R122: an accepted submission: the number, the claims, the load record and its reference, the queue and its list. -/
def State.acceptOrder (s : State) (u : Submission) : State :=
  let n := s.dispatcher.counter
  let o := s.newOrder u n
  let s := (s.claimSource u.source n).claimDest u.dest n
  let s :=
    match o.kind.carriesNewRecord, o.load with
    | true, some r => s.addRef r.heat
    | _, _ => s
  (s.modDispatcher (fun d =>
    let orders := d.orders ++ [o]
    { d with
      orders
      counter := nextNumber (orders.map (·.number)) n
      history := d.history.filter (fun e => e.number != n)
      urgent := if u.cls = .urgent then d.urgent ++ [n] else d.urgent
      normal := if u.cls = .normal then d.normal ++ [n] else d.normal
      accepted := bump d.accepted })).callPass

/-! ## The end of an order (R123, R124) -/

/-- R124: the destination claim ends without a set-down. -/
def State.releaseDest (s : State) (o : Order) : State :=
  match o.dest with
  | .bay b => s.releaseDestBay b o.number
  | _ => s

/-- R124: the source claim ends without a lift. -/
def State.releaseSource (s : State) (o : Order) : State :=
  match o.source, o.priorBay, o.priorRemnant with
  | .bay b, some prior, _ => s.releaseSourceBay b o.number prior
  | .rack k, _, some prior =>
    match s.occupant k with
    | some i => s.restoreRemnant i prior
    | none => s
  | _, _, _ => s

/-- R124, R87: a load record built at acceptance is dropped with its reference; a DELIVER's returns to the hook. -/
def State.dropLoad (s : State) (o : Order) : State :=
  match o.kind.carriesNewRecord, o.load with
  | true, some r => s.dropRef r.heat
  | _, _ => s

/-- R124: what an order that has not been set down leaves behind. -/
def State.undoOrder (s : State) (o : Order) : State :=
  if o.beforeLift then ((s.releaseDest o).releaseSource o).dropLoad o else s.releaseDest o

/-- R116: a new entry of the ended-order history, which keeps the latest 32. -/
def addEnded (h : List Ended) (e : Ended) : List Ended :=
  let all := h ++ [e]
  all.drop (all.length - Config.historySize)

/-- R123, steps 2 to 6: the order leaves its list and the queue, its crane no longer holds it, the history and counter record it,
the crane's class is marked, and a dispatch pass is due. -/
def State.closeOrder (s : State) (o : Order) (final : FinalState) (cause : Option EndCause) : State :=
  let e : Ended := { number := o.number, kind := o.kind, final, cause, crane := o.crane }
  let s := s.modDispatcher (fun d =>
    { d with
      orders := d.orders.filter (fun p => p.number != o.number)
      urgent := d.urgent.filter (· != o.number)
      normal := d.normal.filter (· != o.number)
      history := addEnded d.history e
      done := if final = .done then bump d.done else d.done
      cancelled := if final = .cancelled then bump d.cancelled else d.cancelled
      failed := if final = .failed then bump d.failed else d.failed })
  let s :=
    match o.crane with
    | some c =>
      (s.modCrane c (fun k =>
        { k with order := if k.order = some o.number then none else k.order, lastEnded := some e })).mark (.crane c)
    | none => s
  s.callPass

/-- R123, R124: an order that ends without its set-down. -/
def State.endUndone (s : State) (o : Order) (final : FinalState) (cause : EndCause) : State :=
  (s.undoOrder o).closeOrder o final (some cause)

/-! ## Lift and set-down (R9, R106, R107, R144, R145) -/

/-- R9: the load record that a plate record moves to at the lift. -/
def Plate.load (p : Plate) : LoadRecord := ⟨p.heat, p.grade, p.thickness, p.width, p.length, p.remnant⟩

/-- R101, R114: the load takes the dimensions entered into the remnant record it names, which are its raw ones. -/
def LoadRecord.takeDimensions (r : LoadRecord) (m : Remnant) : LoadRecord :=
  { r with width := m.rawWidth, length := m.rawLength }

/-- R9, R106, R114: the load record of a plate lifted from its bay: the plate record, with the dimensions of the remnant record it
names as they stand at the lift (DEDUCED, notes/assumptions/62). -/
def State.plateLoad (s : State) (p : Plate) : LoadRecord :=
  match p.remnant.bind s.remnant with
  | some m => p.load.takeDimensions m
  | none => p.load

/-- R8: the plate record of a load set down in a bay. -/
def LoadRecord.plate (r : LoadRecord) : Plate :=
  { heat := r.heat, grade := r.grade, thickness := r.thickness, width := r.width, length := r.length, remnant := r.remnant,
    identity := .unchecked }

/-- R9: the source bay becomes EMPTY at the lift. -/
def State.liftFromBay (s : State) (site : Site) : State :=
  match site with
  | .bay b => (s.modBay b Bay.toEmpty).bayChanged b
  | _ => s

/-- R9, R114, R144: the load record that goes to the hook. -/
def State.liftedLoad (s : State) (o : Order) : Option LoadRecord :=
  match o.source with
  | .bay b => (s.bay b).plate.map s.plateLoad
  | _ => o.load

/-- R144: PICKED: the load record goes to the hook, a remnant it names becomes MOVING, the order becomes CARRYING. -/
def State.lift (s : State) (c : CraneId) (o : Order) : State :=
  let load := s.liftedLoad o
  let s := s.liftFromBay o.source
  let s :=
    match load.bind (·.remnant) with
    | some i => s.liftRemnant i c
    | none => s
  let s := s.modOrder o.number (fun o =>
    { o with load, state := .carrying, priorBay := none, priorRemnant := none })
  let s := s.modCrane c (fun k => { k with hook := load, hoistTimer := none })
  (s.travelTo c o.dest).recomputeOther c

/-- R8, R107, R145: what the set-down does at the destination. In a bay the reference passes to the plate record; elsewhere the
load record is dropped. -/
def State.landLoad (s : State) (dest : Site) (r : LoadRecord) : State :=
  let s :=
    match r.remnant with
    | some i => s.landRemnant i dest
    | none => s
  match dest with
  | .bay b => (s.modBay b (fun k => k.toPlaced r.plate)).bayChanged b
  | _ => s.dropRef r.heat

/-- R145: SET_DOWN of a LOWERING order: DONE, and the crane becomes IDLE. -/
def State.finishSetDown (s : State) (c : CraneId) (o : Order) : State :=
  let s :=
    match (s.crane c).hook with
    | some r => s.landLoad o.dest r
    | none => s
  let s := s.modCrane c (fun k => { k with hook := none, hoistTimer := none })
  (s.closeOrder o .done none).becomeIdle c

/-- R146: SET_DOWN of a withdrawn pick: FAILED with cause OVERLOAD, and the crane becomes IDLE. -/
def State.finishWithdrawal (s : State) (c : CraneId) (o : Order) : State :=
  let s := s.endUndone o .failed .overload
  (s.modCrane c (fun k => { k with withdrawn := false, hoistTimer := none })).becomeIdle c

end Sys2Proof.Machine
end

