-- ==== Sys2Proof/Machine/Encode.lean ====
section
/-! DEFINITION. How the values of replies, notices and port messages are carried (R48, R136, R171, R175, R177, R178). -/

namespace Sys2Proof.Machine

/-! ## Plain values (R171) -/

def u8 (n : Nat) : List Byte := toBytes 1 n
def u16 (n : Nat) : List Byte := toBytes 2 n
def u32 (n : Nat) : List Byte := toBytes 4 n

/-- R171: a two-valued state. -/
def flag (b : Bool) : List Byte := [if b then 1 else 0]

/-- R171: every byte 0xFF. -/
def absent (width : Nat) : List Byte := List.replicate width 0xFF

/-- R171: an optional number whose range holds 0. -/
def optional (width : Nat) (n : Option Nat) : List Byte :=
  match n with
  | some n => toBytes width n
  | none => absent width

/-- R171: an optional number whose range does not hold 0; absent is 0. -/
def orZero (width : Nat) (n : Option Nat) : List Byte := toBytes width (n.getD 0)

/-- R171: a set of numbers 1..m, given as indices from 0, as a bitmap. -/
def bitmap {m : Nat} (width : Nat) (l : List (Fin m)) : List Byte :=
  toBytes width (l.foldl (fun n i => n ||| 2 ^ i.val) 0)

/-- R171: a list: the number of entries, then the entries. -/
def counted {α : Type} (f : α → List Byte) (l : List α) : List Byte := u8 l.length ++ l.flatMap f

/-! ## Codes (R171) -/

def craneNumber : CraneId → Nat
  | .c1 => 1
  | .c2 => 2

def BayState.code : BayState → Nat
  | .empty => 0
  | .loading => 1
  | .placed => 2
  | .ready => 3
  | .mismatch => 4
  | .burning => 5
  | .cut => 6
  | .unloading => 7

def Identity.code : Identity → Nat
  | .unchecked => 0
  | .matched => 1
  | .mismatched => 2
  | .accepted => 3

def BurnOutcome.code : BurnOutcome → Nat
  | .none => 0
  | .complete => 1
  | .incomplete => 2

def ChannelState.code : ChannelState → Nat
  | .idle => 0
  | .running => 1
  | .waitBudget => 2
  | .waitCheck => 3
  | .starved => 4
  | .held => 5
  | .ending => 6

def HeldCause.code : HeldCause → Nat
  | .host => 0
  | .guard => 1
  | .arcLost => 2

/-- R45: the end status codes. -/
def EndStatus.code : EndStatus → Nat
  | .complete => 0
  | .aborted => 1
  | .hallStop => 2
  | .strikeFailed => 3
  | .checkTimeout => 4
  | .budgetImpossible => 5
  | .sequenceError => 6
  | .gantryFault => 7
  | .gantrySilent => 8

def ArcState.code : ArcState → Nat
  | .dark => 0
  | .striking => 1
  | .stable => 2
  | .disturbed => 3

def StrikePurpose.code : StrikePurpose → Nat
  | .pierce => 0
  | .repierce => 1
  | .mark => 2

def BookingKind.code : BookingKind → Nat
  | .none => 0
  | .pierce => 1
  | .cut => 2
  | .mark => 3

def ArcKind.code : ArcKind → Nat
  | .pierce => 0
  | .mark => 1

/-- R81, R171: the state of a heat in use, by the two-valued row of R171, which names ACTIVE and CLOSED; read as an enumeration of
R81's table it would be 0 and 1 (DESIGN CHOICE, notes/assumptions/64). -/
def HeatState.code : HeatState → Nat
  | .active => 1
  | .closed => 0

def TraceOutcome.code : TraceOutcome → Nat
  | .writing => 0
  | .marked => 1
  | .markFailed => 2
  | .notMarked => 3
  | .noSerial => 4

/-- R96: VACANT is 0. -/
def RemnantState.code : RemnantState → Nat
  | .stocked => 1
  | .reserved => 2
  | .expired => 3
  | .called => 4
  | .moving => 5
  | .inBay => 6

def OrderKind.code : OrderKind → Nat
  | .loadNew => 0
  | .loadRemnant => 1
  | .unloadToRack => 2
  | .unloadToOffload => 3
  | .restock => 4
  | .scrapRemnant => 5
  | .deliver => 6

def OrderState.code : OrderState → Nat
  | .queued => 0
  | .assigned => 1
  | .lifting => 2
  | .carrying => 3
  | .lowering => 4
  | .suspended => 5

/-- The suspended phase by its own row of R115; the order record carries it in order state codes (R178). -/
def Phase.code : Phase → Nat
  | .assigned => 0
  | .lifting => 1
  | .carrying => 2
  | .lowering => 3

def OrderClass.code : OrderClass → Nat
  | .normal => 0
  | .urgent => 1

def FinalState.code : FinalState → Nat
  | .done => 0
  | .cancelled => 1
  | .failed => 2

def EndCause.code : EndCause → Nat
  | .host => 0
  | .overload => 1
  | .cleared => 2

def CraneState.code : CraneState → Nat
  | .offline => 0
  | .parked => 1
  | .idle => 2
  | .yielding => 3
  | .travel => 4
  | .hoist => 5
  | .wait => 6
  | .stopped => 7
  | .stranded => 8

def Purpose.code : Purpose → Nat
  | .order => 0
  | .yield => 1
  | .park => 2

def WaitCause.code : WaitCause → Nat
  | .separationSpan => 0
  | .burningBay => 1
  | .guard => 2

def StopCause.code : StopCause → Nat
  | .fault => 0
  | .overload => 1
  | .hallStop => 2
  | .separation => 3
  | .hoistTimeout => 4

def LatchEdge.code : LatchEdge → Nat
  | .enter => 0
  | .leave => 1
  | .both => 2

def HallState.code : HallState → Nat
  | .park => 0
  | .purge => 1
  | .run => 2
  | .pause => 3

def HallCause.code : HallCause → Nat
  | .reset => 0
  | .host => 1
  | .wakeLine => 2
  | .purgeDone => 3
  | .linkSilence => 4
  | .stopLine => 5

def RestartCause.code : RestartCause → Nat
  | .powerOn => 0
  | .resetPin => 1
  | .hallReset => 2

def rateCode : LinkRate → Nat
  | .slow => 0
  | .fast => 1

/-- R170: the result codes. -/
def ResultCode.code : ResultCode → Nat
  | .ok => 0
  | .badLength => 1
  | .badType => 2
  | .badField => 3
  | .wrongState => 4
  | .bufferFull => 5
  | .queueFull => 6
  | .tableFull => 7
  | .unknownHeat => 8
  | .heatClosed => 9
  | .heatInUse => 10
  | .notQuiet => 11
  | .limitBelowLoad => 12
  | .stepExceedsLimit => 13
  | .slotOccupied => 14
  | .noCrane => 15
  | .overweight => 16
  | .bayOverhead => 17
  | .bayNotReady => 18
  | .orderLoaded => 19
  | .unknownOrder => 20
  | .remnantState => 21
  | .tooSmall => 22
  | .stopLineActive => 23
  | .bayClaimed => 24
  | .spanBlocked => 25

def levelHigh : Level → Bool
  | .low => false
  | .high => true

/-! ## Port messages (R48, R136) -/

def MoveKind.code : MoveKind → Nat
  | .travel => 0
  | .cutLine => 1
  | .cutArc => 2

def Direction.code : Direction → Nat
  | .cw => 0
  | .ccw => 1

def TorchMode.code : TorchMode → Nat
  | .cut => 0
  | .mark => 1

/-- R48: the frame of a message to a gantry. -/
def GantryMessage.frame : GantryMessage → Frame
  | .move seq kind x y feed setpoint arc =>
    { typ := 0x01, tag := seq,
      body := u8 kind.code ++ u32 x ++ u16 y ++ u16 feed ++ (setpoint.map u16).getD [] ++
        (arc.map (fun a => toSignedBytes 4 a.1 ++ toSignedBytes 4 a.2.1 ++ u8 a.2.2.code)).getD [] }
  | .torchOn current mode => { typ := 0x02, tag := 0, body := u16 current ++ u8 mode.code }
  | .torchOff => { typ := 0x03, tag := 0, body := [] }
  | .heightHold on => { typ := 0x04, tag := 0, body := flag on }
  | .markText seq text height => { typ := 0x05, tag := seq, body := text ++ u8 height }
  | .halt => { typ := 0x06, tag := 0, body := [] }
  | .rest => { typ := 0x07, tag := 0, body := [] }

/-- R136: the frame of a message to a crane. -/
def CraneMessage.frame : CraneMessage → Frame
  | .goto position => { typ := 0x01, tag := 0, body := u32 position }
  | .hoistPick => { typ := 0x02, tag := 0, body := [] }
  | .hoistSet => { typ := 0x03, tag := 0, body := [] }
  | .halt => { typ := 0x04, tag := 0, body := [] }

/-- The port and frame of anything the part sends. -/
def Sent.portFrame : Sent → Port × Frame
  | .host f => (.host, f)
  | .gantry g m => (.gantry g, m.frame)
  | .crane c m => (.crane c, m.frame)

/-! ## Records -/

def gantryNumber (g : Gantry) : List Byte := u8 (g.val + 1)
def bayNumber (b : BayIx) : List Byte := u8 (b.val + 1)

/-- R5: a plate record; an absent one is 0xFF throughout, like an absent load record (R178). -/
def plateBytes : Option Plate → List Byte
  | some p =>
    u8 p.heat.val ++ u8 p.grade ++ u8 p.thickness ++ u16 p.width ++ u16 p.length ++ optional 1 (p.remnant.map (·.val)) ++
      u8 p.identity.code
  | none => absent 9

/-- R178: a load record. -/
def loadBytes : Option LoadRecord → List Byte
  | some r =>
    u8 r.heat.val ++ u8 r.grade ++ u8 r.thickness ++ u16 r.width ++ u16 r.length ++ optional 1 (r.remnant.map (·.val))
  | none => absent 8

/-- R17, R18: an entry of a reader history. -/
def Read.bytes : Read → List Byte
  | .code c => c
  | .unreadable => toBytes 8 Config.unreadableEntry.toNat

/-- R61: the arc parameters. -/
def ArcParams.bytes (p : ArcParams) : List Byte :=
  u16 p.band ++ u8 p.stableCount ++ u8 p.window ++ u8 p.lossCount ++ u16 p.strikeTimeout ++ u8 p.strikeRetries

/-- R177: the kind code of a step. -/
def Step.kindCode : Step → Nat
  | .travel .. => 1
  | .pierce .. => 2
  | .cutLine .. => 3
  | .cutArc .. => 4
  | .extinguish => 5
  | .mark .. => 6
  | .milestone _ => 7
  | .check .. => 8
  | .finish => 9

/-- R47: a window entry as sequence number and kind. -/
def WindowEntry.bytes (e : WindowEntry) : List Byte :=
  [e.seq,
    match e.step with
    | .motion step => BitVec.ofNat 8 step.kindCode
    | .markMove => 1
    | .markText => Config.markTextKind]

def pathBytes : Option Point → List Byte
  | some p => u32 p.x ++ u16 p.y
  | none => absent 6

/-- R92: a trace record. -/
def TraceRecord.bytes (r : TraceRecord) : List Byte :=
  u32 r.number ++ gantryNumber r.channel ++ bayNumber r.bay ++ u8 r.heat.val ++ r.code ++ orZero 4 r.serial ++ u16 r.part ++
    u8 r.outcome.code

/-- R64: the gate's cause set as a bitmap, LOAD first. -/
def GateCauses.bytes (c : GateCauses) : List Byte :=
  u8 ((if c.load then 1 else 0) +
    match c.hall with
    | none => 0
    | some .park => 2
    | some .purge => 4
    | some .pause => 8)

def Booking.bytes (k : Booking) : List Byte := u8 k.kind.code ++ u16 k.amount
def Waiter.bytes (w : Waiter) : List Byte := gantryNumber w.channel ++ u8 w.kind.code ++ u16 w.amount

/-- The place number of a site, 0 for a hook, and its slot, 0 where it has none. -/
def Site.bytes : Site → List Byte
  | .hook => [0, 0]
  | .intake => [1, 0]
  | .bay b => u8 (b.val + 2) ++ [0]
  | .rack k => u8 (k.rack.val + 10) ++ u8 (k.slot.val + 1)
  | .offload => [14, 0]

def CraneChoice.code : CraneChoice → Nat
  | .any => 0
  | .only c => craneNumber c

def craneOrZero (c : Option CraneId) : List Byte := orZero 1 (c.map craneNumber)

/-- R178: the order record with its position in its list, which R133 gives after the record and R178 in its byte 27: it is carried
once, in byte 27, and no byte follows the record (DESIGN CHOICE, notes/assumptions/68). -/
def Order.bytes (o : Order) (position : Nat) : List Byte :=
  u16 o.number ++ u8 o.kind.code ++ u8 o.state.code ++ orZero 1 (o.suspendedPhase.map (·.state.code)) ++ u8 o.cls.code ++
    flag o.promoted ++ u8 o.choice.code ++ o.source.bytes ++ o.dest.bytes ++ loadBytes o.load ++ u16 o.mass ++
    craneOrZero o.crane ++ optional 2 (o.queuedMs.map (fun _ => o.queuedTime)) ++ orZero 1 (o.priorBay.map BayState.code) ++
    orZero 1 (o.priorRemnant.map RemnantState.code) ++ u8 position

/-- R116, R133: an entry of the ended-order history. -/
def Ended.bytes (e : Ended) : List Byte :=
  u16 e.number ++ u8 e.kind.code ++ u8 e.final.code ++ optional 1 (e.cause.map EndCause.code) ++ craneOrZero e.crane

/-- R175: the last ended order of a crane in its notice. -/
def lastEndedBytes : Option Ended → List Byte
  | some e => u16 e.number ++ u8 e.kind.code ++ u8 e.final.code ++ optional 1 (e.cause.map EndCause.code)
  | none => u16 0 ++ absent 3

/-- R178: the remnant record; a VACANT one carries bytes 2 to 19 as absent. -/
def remnantBytes (i : RemnantIx) : Option Remnant → List Byte
  | some r =>
    u8 i.val ++ u8 r.state.code ++ u8 r.heat.val ++ u8 r.grade ++ u8 r.thickness ++ u16 r.rawWidth ++ u16 r.rawLength ++
      u16 r.usableWidth ++ u16 r.usableLength ++ orZero 1 (r.slot.map (fun k => k.rack.val + 1)) ++
      orZero 1 (r.slot.map (fun k => k.slot.val + 1)) ++ orZero 1 (r.bay.map (fun b => b.val + 1)) ++ craneOrZero r.crane ++
      u8 r.age ++ orZero 2 r.tag
  | none => u8 i.val ++ u8 0 ++ absent 1 ++ u8 0 ++ u8 0 ++ u16 0 ++ u16 0 ++ u16 0 ++ u16 0 ++ [0, 0, 0, 0] ++ absent 1 ++ u16 0

/-- R81, R85: a heat entry in use. -/
def Heat.bytes (h : Heat) : List Byte :=
  u8 h.state.code ++ h.code ++ u8 h.grade ++ u32 h.first ++ u32 h.next ++ flag (h.next == 100000) ++ u32 h.made ++
    u32 h.failed ++ u8 h.refs

/-- R112: a candidate of REMNANT_FIND. -/
def Candidate.bytes (k : Candidate) : List Byte :=
  u8 k.index.val ++ u8 k.record.state.code ++ orZero 1 (k.record.slot.map (fun s => s.rack.val + 1)) ++
    orZero 1 (k.record.slot.map (fun s => s.slot.val + 1)) ++ u16 k.record.usableWidth ++ u16 k.record.usableLength ++
    u32 k.record.area ++ u8 k.record.age ++ flag (k.fit == .turned)

/-- R156: a line's function with its bay and crane. -/
def LineFunction.bytes : LineFunction → List Byte
  | .general => [0, 0, 0]
  | .guard b => [1] ++ bayNumber b ++ [0]
  | .overload c => [2, 0] ++ u8 (craneNumber c)
  | .hallStop => [3, 0, 0]
  | .wake => [4, 0, 0]

/-! ## Status replies -/

/-- R17. -/
def State.bayStatusBytes (s : State) (b : BayIx) : List Byte :=
  let k := s.bay b
  let i := s.layout.bays.get b
  u8 k.state.code ++ orZero 2 k.claim ++ plateBytes k.plate ++ (k.lastDeclared.getD (List.replicate 8 0)) ++
    counted Read.bytes k.history ++ flag k.comparePending ++ u8 k.outcome.code ++ u16 k.readsStored ++ u16 k.readsDiscarded ++
    u16 k.declarations ++ u32 i.first ++ u32 i.last ++ u32 i.centre ++ u8 s.bayTable.readerK ++ u8 s.bayTable.readerN ++
    u16 s.bayTable.misdirected

/-- R24: free space in the step buffer. -/
def Channel.freeSpace (c : Channel) : Nat := Config.bufferSize - c.buffer.length

/-- R47. -/
def Channel.statusBytes (c : Channel) : List Byte :=
  u8 c.state.code ++ optional 1 (c.heldCause.map HeldCause.code) ++ orZero 1 (c.bay.map (fun b => b.val + 1)) ++
    flag c.reentry ++ flag c.endConsumed ++ flag c.pierceConsumed ++ flag c.frozen ++ flag c.haltTimer.isSome ++
    u8 c.buffer.length ++ u8 c.freeSpace ++ counted WindowEntry.bytes c.window ++ pathBytes c.path ++ [c.nextSeq] ++
    c.params.bytes ++ u16 c.milestoneCode ++ u8 c.milestoneCount ++ optional 1 (c.lastEnd.map (fun e => e.status.code)) ++
    u8 (if c.gantryPresent then 0 else 1) ++ [c.gantryCode] ++ u16 c.stepsDone ++ u16 c.pierces ++ u16 c.repierces ++
    u16 c.starvations ++ u16 c.bufferFull ++ u16 c.clamps ++ u16 c.strays

/-- R63. -/
def Monitor.statusBytes (m : Monitor) : List Byte :=
  u8 m.arc.code ++ orZero 2 m.setpoint ++ optional 1 (m.purpose.map StrikePurpose.code) ++ u8 m.goodCount ++
    u8 m.samples.length ++ u8 m.badCount ++ u16 (remaining m.strikeTimer) ++ u8 m.retryCount ++ flag m.heightHold ++
    m.params.bytes ++ u16 m.classified ++ u16 m.discarded ++ u16 m.clamped ++ u16 m.retriesMade ++ u16 m.strikeFailures ++
    u16 m.disturbances ++ u16 m.losses

/-- R78, R175: the bookings and the wait list. -/
def Budget.listBytes (b : Budget) : List Byte :=
  b.bookings.toList.flatMap Booking.bytes ++ counted Waiter.bytes b.waitList

/-- R78. -/
def Budget.statusBytes (b : Budget) : List Byte :=
  u16 b.limit ++ u16 b.high ++ u16 b.low ++ u8 b.surge ++ u16 b.total ++ flag b.causes.isOpen ++ b.causes.bytes ++
    b.listBytes ++ u16 b.immediate ++ u16 b.fromList ++ u16 b.joins ++ u16 b.clampedRaises ++ u16 b.impossible ++
    u16 b.gateClosings

/-- R85. -/
def State.heatStatusBytes (s : State) (h : HeatIx) : List Byte :=
  (match s.heat h with
    | some e => e.bytes
    | none => [Config.freeHeatState]) ++ u8 (allHeats.countP (fun h => (s.heat h).isNone))

/-- R93: the number of the oldest trace record held, 0 when there is none. -/
def Composer.firstHeld (c : Composer) : Nat := (c.trace.head?.map (·.number)).getD 0

/-- R93: the records a TRACE_READ returns. -/
def Composer.traceFrom (c : Composer) (start count : Nat) : List TraceRecord :=
  if c.total < start then [] else (c.trace.dropWhile (fun r => r.number < start)).take count

/-- R93. -/
def Composer.traceReadBytes (c : Composer) (start count : Nat) : List Byte :=
  u32 c.total ++ u32 c.firstHeld ++ counted TraceRecord.bytes (c.traceFrom start count)

/-- R113: the remaining time of the aging timer in minutes, rounded up. -/
def RemnantTable.remainingMinutes (t : RemnantTable) : Nat := (remaining t.agingTimer + 59999) / 60000

/-- R113. -/
def State.remnantReadBytes (s : State) (i : RemnantIx) : List Byte :=
  let t := s.remnants
  remnantBytes i (s.remnant i) ++
    [none, some .stocked, some .reserved, some .expired, some .called, some .moving, some .inBay].flatMap
      (fun k => u8 (s.countRemnants k)) ++
    u8 t.margin ++ u16 t.minDimension ++ u16 t.agingPeriod ++ u8 t.expiryCount ++ u16 t.remainingMinutes ++ u16 t.expiries

/-- R112. -/
def remnantFindBytes (found : List Candidate) : List Byte := u8 found.length ++ counted Candidate.bytes (found.take 8)

/-- R133: the position of an order in its list, from 1; 0 when it is not QUEUED. -/
def Dispatcher.position (d : Dispatcher) (n : Nat) : Nat :=
  if d.urgent.contains n then d.urgent.idxOf n + 1 else if d.normal.contains n then d.normal.idxOf n + 1 else 0

/-- R133: the dispatcher state. -/
def Dispatcher.bytes (d : Dispatcher) : List Byte :=
  counted u16 d.urgent ++ counted u16 d.normal ++ u8 d.urgentRun ++ u16 d.counter ++ u8 d.orders.length ++ u16 d.accepted ++
    u16 d.refused ++ u16 d.done ++ u16 d.cancelled ++ u16 d.failed ++ u16 d.promotions ++ u16 d.dispatches

/-- R151: the remaining hoist time in seconds, 0 when stopped. The manual does not say how a part of a second is rounded:
that is the free value Config.openSecond (notes/assumptions/59). -/
def Crane.hoistSeconds (k : Crane) : Nat :=
  let left := remaining k.hoistTimer
  if left % 1000 = 0 then left / 1000 else left / 1000 + (Config.openSecond left).toNat

/-- R151. -/
def State.craneStatusBytes (s : State) (c : CraneId) : List Byte :=
  let k := s.crane c
  let o := s.orderInHand c
  let t := s.settings
  u8 k.state.code ++ optional 1 (k.waitCause.map WaitCause.code) ++ optional 1 (k.stopCause.map StopCause.code) ++
    u32 k.position ++ optional 4 k.target ++ optional 4 (k.goal.map (·.position)) ++
    optional 1 (k.goal.map (fun g => g.purpose.code)) ++ orZero 2 k.order ++ optional 1 (o.map (fun o => o.state.code)) ++
    optional 1 ((o.bind (·.suspendedPhase)).map Phase.code) ++ loadBytes k.hook ++ flag k.hookLoaded ++ [k.drive] ++
    flag k.withdrawn ++ u8 k.hoistSeconds ++ u16 k.offlineEntries ++ u16 k.clippedTargets ++ u16 k.strays ++
    u16 k.separationFaults ++ u16 t.separation ++ u16 t.margin ++ u16 (t.swl.get c) ++ u32 (t.park.get c) ++
    bitmap 2 (t.reach.get c)

/-- R155: the twelve aggregates. -/
def allAggregates : List Aggregate :=
  allBays.map Aggregate.guard ++ [.overload .c1, .overload .c2, .hallStop, .wake]

/-- R165. -/
def State.hallStatusBytes (s : State) : List Byte :=
  let h := s.hall
  u8 h.state.code ++ u8 h.cause.code ++ flag h.purged ++ u32 (remaining h.purgeTimer) ++ u8 h.purgeTime ++ u8 h.silenceTime ++
    u8 h.summaryPeriod ++ u16 (remaining h.summaryTimer) ++ flag s.link.silent ++ u16 s.link.sinceFrame ++ flag s.quiet ++
    flag s.dispatcher.orders.isEmpty ++ allAggregates.flatMap (fun a => flag (s.aggregate a)) ++
    allLines.flatMap (fun i => flag (s.line i).active ++ flag (s.line i).latch)

/-- R157. A stopped filter timer is carried as 0 (DESIGN CHOICE, notes/assumptions/67). -/
def State.lineStatusBytes (s : State) (i : LineIx) : List Byte :=
  let l := s.line i
  l.function.bytes ++ flag (levelHigh l.activeLevel) ++ u8 l.filterTime ++ u8 l.edge.code ++ flag (levelHigh l.filtered) ++
    u8 (remaining l.filterTimer) ++ flag l.active ++ flag l.latch ++ u16 l.changes ++ u16 l.glitches ++ flag (levelHigh l.input) ++
    (match l.function.aggregate with
      | some a => flag (s.aggregate a)
      | none => absent 1)

/-- R176: the set of classes with some property, as a bitmap. -/
def Link.classSet (l : Link) (p : Notice → Bool) : List Byte :=
  bitmap 3 ((List.finRange 18).filter (fun i => p (l.notices.get i)))

/-- R176. -/
def Link.statusBytes (l : Link) : List Byte :=
  u16 l.stats.good ++ u16 l.stats.crcErrors ++ u16 l.stats.lengthErrors ++ u16 l.stats.overruns ++ u16 l.stats.silences ++
    u8 l.replies.length ++ [l.sequence] ++ flag l.master ++ l.classSet (·.enabled) ++ l.classSet (·.pending) ++
    l.notices.toList.flatMap (fun n => u8 n.count)

/-- R176: IDENTIFY: GH480 with three spaces, revision 1, the rate and the six capacities. -/
def Link.identityBytes (l : Link) : List Byte :=
  [0x47, 0x48, 0x34, 0x38, 0x30, 0x20, 0x20, 0x20, 1] ++ u8 (rateCode l.rate) ++ [4, 8, 32, 64, 96, 16]

/-! ## Notices (R175) -/

/-- R175: the values of a notice after its class and count. -/
def State.noticeValues (s : State) : NoticeClass → List Byte
  | .restart => u8 s.link.restart.code
  | .hall =>
    u8 s.hall.state.code ++ u8 s.hall.cause.code ++ flag s.hall.purged ++ u32 (remaining s.hall.purgeTimer) ++
      flag s.hallStopActive
  | .channelEnd g =>
    let e := (s.channel g).lastEnd
    optional 1 (e.map (fun e => e.status.code)) ++ orZero 1 (e.map (fun e => e.bay.val + 1)) ++
      optional 1 (e.map (fun e => if e.pierceConsumed then 1 else 0))
  | .channelEvent g =>
    let c := s.channel g
    u8 c.state.code ++ optional 1 (c.heldCause.map HeldCause.code) ++ u8 (s.monitor g).arc.code ++ flag c.reentry ++
      u16 c.milestoneCode ++ u8 c.milestoneCount ++ u16 c.clamps
  | .crane c =>
    let o := s.orderInHand c
    s.craneStatusBytes c ++ orZero 2 (o.map (·.number)) ++ optional 1 (o.map (fun o => o.kind.code)) ++
      optional 1 (o.map (fun o => o.state.code)) ++ lastEndedBytes (s.crane c).lastEnded
  | .budget =>
    u16 s.budget.total ++ u16 s.budget.limit ++ flag s.budget.causes.isOpen ++ s.budget.causes.bytes ++ s.budget.listBytes
  | .bay => bitmap 1 s.bayTable.changed
  | .field => bitmap 2 (allLines.filter (fun i => (s.line i).latch)) ++ bitmap 2 (allLines.filter (fun i => (s.line i).active))
  | .mark =>
    u32 s.composer.total ++ u32 s.composer.firstHeld ++
      (match s.composer.lastMark with
        | some r => r.bytes
        | none => absent 22)
  | .remnant => bitmap 12 s.remnants.expired
  | .summary =>
    u8 s.hall.state.code ++
      allChannels.flatMap (fun g =>
        u8 (s.channel g).state.code ++ optional 1 ((s.channel g).lastEnd.map (fun e => e.status.code))) ++
      u16 s.budget.total ++ u16 s.budget.limit ++ flag s.budget.causes.isOpen ++ u8 s.dispatcher.orders.length ++
      allCranes.flatMap (fun c => u8 (s.crane c).state.code ++ u32 (s.crane c).position) ++ u32 s.composer.total ++
      u8 (s.countRemnants (some .stocked)) ++ u8 (s.countRemnants (some .expired))

/-- R174, R175: the frame of a notice, from the state of the moment. -/
def State.noticeFrame (s : State) (k : NoticeClass) : Frame where
  typ := 0x80
  tag := s.link.sequence
  body := u8 (k.index.val + 1) ++ u8 (s.notice k).count ++ s.noticeValues k

end Sys2Proof.Machine
end

