-- ==== Sys2Proof/Machine/BudgetOps.lean ====
section
/-! DEFINITION. The feeder budget (chapter 4): amounts, bookings, the gate and its LOAD cause, admission and the wait list;
and the strike that an admission begins (R53). -/

namespace Sys2Proof.Machine

/-- R65: the pierce amount, the cut current raised by the surge percent and rounded up. -/
def pierceAmount (current surge : Nat) : Nat := (current * surge + 99) / 100

/-! ## The gate (R70, R72) -/

/-- A change of the gate's cause set: it marks BUDGET, and a change from OPEN to CLOSED counts as a gate closing. -/
def State.setCauses (s : State) (c : GateCauses) : State :=
  if c = s.budget.causes then s
  else
    let closes := s.budget.causes.isOpen && !c.isOpen
    (s.modBudget (fun b =>
      { b with causes := c, gateClosings := if closes then bump b.gateClosings else b.gateClosings })).mark .budget

/-- R70: LOAD joins the causes above H, leaves them at Lo or below, and is kept between. -/
def State.evalLoad (s : State) : State :=
  let b := s.budget
  if b.high < b.total then s.setCauses { b.causes with load := true }
  else if b.total ≤ b.low then s.setCauses { b.causes with load := false }
  else s

/-! ## Bookings -/

/-- A channel's booking replaced; T changes by the same difference (R64). -/
def State.setBooking (s : State) (g : Gantry) (k : Booking) : State :=
  s.modBudget (fun b =>
    { b with bookings := put b.bookings g k, total := b.total - (b.bookings.get g).amount + k.amount })

/-! ## The strike (R53, R67) -/

/-- R31, R35, R32: current and mode of the TORCH_ON of the step in progress. -/
def InProgress.torch : InProgress → Option (Nat × TorchMode)
  | .pierce current _ _ => some (current, .cut)
  | .repierce current _ => some (current, .cut)
  | .mark _ _ _ _ current _ _ => some (current, .mark)
  | _ => Option.none

/-- R53: strike purpose and setpoint of the step in progress. -/
def InProgress.strike : InProgress → Option (StrikePurpose × Nat)
  | .pierce _ setpoint _ => some (.pierce, setpoint)
  | .repierce _ setpoint => some (.repierce, setpoint)
  | .mark _ _ _ _ _ setpoint _ => some (.mark, setpoint)
  | _ => Option.none

/-- TORCH_ON with the current and mode of the step in progress. -/
def State.torchOn (s : State) (g : Gantry) : State :=
  match (s.channel g).inProgress.torch with
  | some (current, mode) => s.tellGantry g (.torchOn current mode)
  | none => s

/-- R53: at the admission of a booking the monitor enters STRIKING. -/
def State.beginStrike (s : State) (g : Gantry) : State :=
  match (s.channel g).inProgress.strike with
  | none => s
  | some (purpose, setpoint) =>
    ((s.torchOn g).modMonitor g (fun m =>
      { m with
        arc := .striking
        setpoint := some setpoint
        purpose := some purpose
        goodCount := 0
        retryCount := 0
        samples := []
        badCount := 0
        heightHold := false
        strikeTimer := some (s.channel g).params.strikeTimeout })).mark (.channelEvent g)

/-! ## Admission and the wait list (R66, R67, R73, R74) -/

/-- R66: the booking kind of a request. -/
def ArcKind.booking : ArcKind → BookingKind
  | .pierce => .pierce
  | .mark => .mark

/-- R67: the admission of a request. A channel admitted from WAIT_BUDGET returns to RUNNING, or to ENDING when END is
consumed. -/
def State.admitChannel (s : State) (g : Gantry) (kind : ArcKind) (amount : Nat) : State :=
  let s := (s.setBooking g ⟨kind.booking, amount⟩).evalLoad
  let s := s.modChannel g (fun c =>
    if c.state = .waitBudget then { c with state := if c.endConsumed then .ending else .running } else c)
  s.beginStrike g

/-- R73: while the gate is OPEN and the head fits under L, the head is admitted. The fuel is the length of the list. -/
def State.testWaitListN : Nat → State → State
  | 0, s => s
  | n + 1, s =>
    match s.budget.waitList with
    | [] => s
    | w :: rest =>
      if s.budget.causes.isOpen ∧ s.budget.total + w.amount ≤ s.budget.limit then
        let s := s.modBudget (fun b => { b with waitList := rest, fromList := bump b.fromList })
        State.testWaitListN n (s.admitChannel w.channel w.kind w.amount)
      else s

/-- R73: a test of the wait list. -/
def State.testWaitList (s : State) : State := State.testWaitListN s.budget.waitList.length s

/-- R70, R73: what follows a decrease of T: LOAD is evaluated and the list is tested. -/
def State.afterDecrease (s : State) : State := s.evalLoad.testWaitList

/-- R71: the release of a channel's booking. -/
def State.releaseBooking (s : State) (g : Gantry) : State := (s.setBooking g ⟨.none, 0⟩).afterDecrease

/-- R74: a channel's entry leaves the wait list without admission, and the list is tested. -/
def State.removeWaiter (s : State) (g : Gantry) : State :=
  if s.budget.waitList.any (fun w => w.channel == g) then
    (s.modBudget (fun b => { b with waitList := b.waitList.filter (fun w => w.channel != g) })).testWaitList
  else s

/-- R66: what becomes of a request for a new arc. -/
inductive Decision where
  | impossible
  | admitted
  | joined
deriving DecidableEq, Repr

/-- R66: the unit decides a request by the first case that applies. -/
def Budget.decide (b : Budget) (amount : Nat) : Decision :=
  if b.limit < amount then .impossible
  else if b.causes.isOpen ∧ b.waitList = [] ∧ b.total + amount ≤ b.limit then .admitted
  else .joined

/-- R66, cases 1 to 3, on the unit's side and on the channel's state; the end of an impossible run is the channel's. -/
def State.requestBooking (s : State) (g : Gantry) (kind : ArcKind) (amount : Nat) : State :=
  match s.budget.decide amount with
  | .impossible => (s.modBudget (fun b => { b with impossible := bump b.impossible })).mark .budget
  | .admitted =>
    (s.modBudget (fun b => { b with immediate := bump b.immediate })).admitChannel g kind amount
  | .joined =>
    let s := s.modBudget (fun b => { b with waitList := b.waitList ++ [⟨g, kind, amount⟩], joins := bump b.joins })
    (s.mark .budget).modChannel g (fun c => { c with state := .waitBudget })

/-! ## Re-booking a lit arc (R68, R69) -/

/-- R68: the step-down of a pierce to its cut amount, made without any test. -/
def State.stepDownBooking (s : State) (g : Gantry) (current : Nat) : State :=
  let before := (s.booking g).amount
  let s := s.setBooking g ⟨.cut, current⟩
  if current < before then s.afterDecrease else s

/-- R69: the current granted for a CUT step: a decrease as asked, a raise up to the room left under L. -/
def Budget.grant (b : Budget) (g : Gantry) (asked : Nat) : Nat :=
  let held := (b.bookings.get g).amount
  if asked ≤ held then asked else min asked (b.limit - (b.total - held))

/-- R33, R69: a CUT step of another current becomes active: the booking is re-booked, a clamped raise is counted and marked on
both sides, and TORCH_ON carries the granted current. -/
def State.rebookCut (s : State) (g : Gantry) (asked : Nat) : State :=
  let held := (s.booking g).amount
  if asked = held then s
  else
    let granted := s.budget.grant g asked
    let s := s.setBooking g ⟨.cut, granted⟩
    let s := if asked < held then s.afterDecrease else s.evalLoad
    let s :=
      if granted < asked then
        ((s.modBudget (fun b => { b with clampedRaises := bump b.clampedRaises })).mark .budget |>.modChannel g
          (fun c => { c with clamps := bump c.clamps })).mark (.channelEvent g)
      else s
    s.tellGantry g (.torchOn granted .cut)

/-! ## Hall causes (R72) -/

/-- R72: the hall cause of the new hall state replaces the one held; the list is tested after it. -/
def State.setHallGate (s : State) (h : Option HallGateCause) : State :=
  (s.setCauses { s.budget.causes with hall := h }).testWaitList

end Sys2Proof.Machine
end

