-- ==== Sys2Proof/Machine/ChannelOps.lean ====
section
/-! DEFINITION. Burn channels (chapter 2) and their arc monitors (chapter 3): putting an arc out, the gantry window, the
consumption of steps, holds, resumption, ends, and the judging of samples. -/

namespace Sys2Proof.Machine

/-! ## Putting an arc out (R58, R59) -/

/-- R58, R59: a monitor that enters DARK. The retry count is kept. -/
def Monitor.toDark (m : Monitor) : Monitor :=
  { m with
    arc := .dark
    setpoint := none
    purpose := none
    goodCount := 0
    samples := []
    badCount := 0
    strikeTimer := none
    heightHold := false }

/-- R58, R59, R71: TORCH_OFF, HEIGHT_HOLD off after it where height hold was on, DARK, and the booking released. -/
def State.goDark (s : State) (g : Gantry) : State :=
  let held := (s.monitor g).heightHold
  let s := s.tellGantry g .torchOff
  let s := if held then s.tellGantry g (.heightHold false) else s
  (s.modMonitor g Monitor.toDark).releaseBooking g

/-- R59: the channel puts the arc out. -/
def State.putOut (s : State) (g : Gantry) : State := (s.goDark g).mark (.channelEvent g)

/-- R59: a put-out where the arc is lit; an arc that is DARK is not put out again (R71). -/
def State.putOutIfLit (s : State) (g : Gantry) : State := if s.lit g then s.putOut g else s

/-! ## Small updates of a channel -/

/-- One more step carried out (R24). -/
def State.stepDone (s : State) (g : Gantry) : State := s.modChannel g (fun c => { c with stepsDone := bump c.stepsDone })

def State.setInProgress (s : State) (g : Gantry) (p : InProgress) : State :=
  s.modChannel g (fun c => { c with inProgress := p })

/-- R35: the MARK step is done, whatever its outcome. -/
def State.markDone (s : State) (g : Gantry) : State := (s.stepDone g).setInProgress g .none

/-- R35, R90: a mark interrupted by a hold or an end is settled there. -/
def State.settleMark (s : State) (g : Gantry) : State :=
  match (s.channel g).inProgress with
  | .mark _ _ part _ _ _ stage =>
    (match stage with
      | .writing record => s.settleTrace record .markFailed
      | .positioning => s.traceWithoutSerial g part .notMarked
      | .striking => s.traceWithoutSerial g part .notMarked).markDone g
  | _ => s

/-! ## Ends (R45) -/

/-- R45, actions 5 to 7. -/
def Channel.ended (c : Channel) (status : EndStatus) : Channel :=
  { c with
    buffer := []
    window := []
    frozen := false
    haltTimer := none
    dwellTimer := none
    checkTimer := none
    inProgress := .none
    reentry := false
    endConsumed := false
    heldCause := none
    path := none
    lastEnd := c.bay.map (fun b => ⟨status, b, c.pierceConsumed⟩) }

/-- R45: the end of a run, its nine actions in order. -/
def State.endRun (s : State) (g : Gantry) (status : EndStatus) : State :=
  let s := ((s.putOutIfLit g).removeWaiter g).settleMark g
  let s := if status = .complete then s else s.tellGantry g .halt
  let s := (s.tellGantry g .rest).modChannel g (fun c => c.ended status)
  let s :=
    match (s.channel g).bay with
    | some b => (s.leaveBurning b (status == EndStatus.complete) (s.channel g).pierceConsumed).recomputeAll
    | none => s
  (s.modChannel g (fun c => { c with pierceConsumed := false, bay := none, state := .idle })).mark (.channelEnd g)

/-- The end of a run, where one is on (R45); an IDLE channel is left as it is. -/
def State.endIfRunning (s : State) (g : Gantry) (status : EndStatus) : State :=
  if (s.channel g).state = .idle then s else s.endRun g status

/-! ## The gantry window (R28) -/

/-- R25: the end point of a motion step. -/
def Step.target : Step → Option Point
  | .travel x y _ => some ⟨x, y⟩
  | .cutLine x y _ _ _ => some ⟨x, y⟩
  | .cutArc x y _ _ _ _ _ _ => some ⟨x, y⟩
  | _ => none

/-- R28: the absolute centre of a CUT_ARC: its start point plus its centre offset. -/
def Step.centre (st : Step) (start : Option Point) : Option (Int × Int) :=
  match st, start with
  | .cutArc _ _ dx dy _ _ _ _, some p => some ((p.x : Int) + dx, (p.y : Int) + dy)
  | _, _ => none

/-- R28: the MOVE of a motion step with the centre it is sent with. -/
def Step.move (st : Step) (seq : Byte) (centre : Option (Int × Int)) : Option GantryMessage :=
  match st with
  | .travel x y feed => some (.move seq .travel x y feed none none)
  | .cutLine x y feed _ setpoint => some (.move seq .cutLine x y feed (some setpoint) none)
  | .cutArc x y _ _ direction feed _ setpoint =>
    some (.move seq .cutArc x y feed (some setpoint) (centre.map (fun p => (p.1, p.2, direction))))
  | _ => none

/-- R33, R53: a CUT step has become the active entry with the arc lit: the setpoint takes the step's, and the booking is
re-booked where its current differs. -/
def State.activateCut (s : State) (g : Gantry) : State :=
  match (s.channel g).activeCut with
  | some (current, setpoint) =>
    if s.lit g then (s.modMonitor g (fun m => { m with setpoint := some setpoint })).rebookCut g current else s
  | none => s

/-- R28: a motion step is sent with the next sequence number and joins the window. -/
def State.sendEntry (s : State) (g : Gantry) (step : Step) (start : Option Point) (centre : Option (Int × Int)) : State :=
  let seq := (s.channel g).nextSeq
  let s :=
    match step.move seq centre with
    | some m => s.tellGantry g m
    | none => s
  s.modChannel g (fun c =>
    { c with
      nextSeq := seq + 1
      window := c.window ++ [⟨seq, .motion step, start, centre⟩]
      path := step.target })

/-- R28, R33: a motion step is consumed. In an empty window it becomes the active entry. -/
def State.sendMotion (s : State) (g : Gantry) (step : Step) : State :=
  let c := s.channel g
  let s := s.sendEntry g step c.path (step.centre c.path)
  if c.window = [] then s.activateCut g else s

/-- R43: frozen entries are sent again, oldest first; an entry after the first keeps its start point. -/
def State.resendList (s : State) (g : Gantry) : List WindowEntry → State
  | [] => s
  | e :: es =>
    match e.step with
    | .motion step => State.resendList (s.sendEntry g step e.start e.centre) g es
    | _ => State.resendList s g es

/-- R43: the frozen window is sent again, its oldest entry from the halted point, and unfrozen. -/
def State.resend (s : State) (g : Gantry) : State :=
  let c := s.channel g
  let entries :=
    match c.window with
    | [] => []
    | e :: es => { e with start := c.path } :: es
  ((s.modChannel g (fun c => { c with window := [], frozen := false })).resendList g entries).activateCut g

/-! ## Torch and control steps (R31-R37) -/

/-- R66: the request of the step in progress, as kind and amount. -/
def InProgress.request (p : InProgress) (surge : Nat) : Option (ArcKind × Nat) :=
  match p with
  | .pierce current _ _ => some (.pierce, pierceAmount current surge)
  | .repierce current _ => some (.pierce, pierceAmount current surge)
  | .mark _ _ _ _ current _ _ => some (.mark, current)
  | _ => Option.none

/-- R31, R32, R35, R66: the booking request of the step in progress; an impossible one ends the run. -/
def State.request (s : State) (g : Gantry) : State :=
  match (s.channel g).inProgress.request s.budget.surge with
  | none => s
  | some (kind, amount) =>
    let impossible := s.budget.decide amount == .impossible
    let s := s.requestBooking g kind amount
    if impossible then s.endRun g .budgetImpossible else s

/-- R31: a PIERCE is carried out. -/
def State.beginPierce (s : State) (g : Gantry) (current setpoint dwell : Nat) : State :=
  (s.modChannel g (fun c =>
    { c with pierceConsumed := true, inProgress := .pierce current setpoint dwell })).request g

/-- R32: an automatic re-pierce. -/
def State.beginRepierce (s : State) (g : Gantry) (current setpoint : Nat) : State :=
  (s.setInProgress g (.repierce current setpoint)).request g

/-- R35, stage 1: the positioning move of a MARK, held as the window's one entry. -/
def State.beginMark (s : State) (g : Gantry) (x y part height current setpoint : Nat) : State :=
  let c := s.channel g
  (s.tellGantry g (.move c.nextSeq .travel x y 0 none none)).modChannel g (fun c =>
    { c with
      inProgress := .mark x y part height current setpoint .positioning
      nextSeq := c.nextSeq + 1
      window := [⟨c.nextSeq, .markMove, c.path, none⟩] })

/-- R36: a CHECK whose line is at its level is done; otherwise the channel waits with the check timer. -/
def State.beginCheck (s : State) (g : Gantry) (line : LineIx) (active : Bool) (timeout : Nat) : State :=
  if (s.line line).active = active then (s.stepDone g).setInProgress g .none
  else
    s.modChannel g (fun c =>
      { c with inProgress := .check line active timeout, state := .waitCheck, checkTimer := some (timeout * 1000) })

/-- R34: EXTINGUISH. -/
def State.extinguish (s : State) (g : Gantry) : State :=
  ((s.putOutIfLit g).modChannel g (fun c => { c with reentry := false })).stepDone g

/-- R34: MILESTONE. -/
def State.milestone (s : State) (g : Gantry) (code : Nat) : State :=
  ((s.modChannel g (fun c => { c with milestoneCode := code, milestoneCount := bump8 c.milestoneCount })).stepDone g).mark
    (.channelEvent g)

/-- R37: END is consumed. -/
def State.consumeEnd (s : State) (g : Gantry) : State :=
  (s.modChannel g (fun c => { c with endConsumed := true, state := .ending })).stepDone g

/-- R38: a STARVED channel whose window is empty puts out a lit arc. -/
def State.starveOut (s : State) (g : Gantry) : State :=
  let c := s.channel g
  if c.state = .starved ∧ c.window = [] ∧ s.lit g then
    (s.putOut g).modChannel g (fun c => { c with reentry := true, starvations := bump c.starvations })
  else s

/-- R38: the channel starves. -/
def State.starve (s : State) (g : Gantry) : State :=
  ((s.modChannel g (fun c => { c with state := .starved })).mark (.channelEvent g)).starveOut g

/-! ## Consumption (R30) -/

/-- R30: what a step at the head of the buffer calls for. -/
inductive Consumption where
  /-- It waits at the head. -/
  | waits
  /-- It fails its sequence check. -/
  | fails
  /-- A re-pierce is made before it. -/
  | repierces (current setpoint : Nat)
  /-- It leaves the buffer and is carried out. -/
  | consumed
deriving DecidableEq, Repr

/-- R30, R32: a motion step at the head, with the arc lit or DARK. -/
def Channel.headMotion (c : Channel) (lit : Bool) (step : Step) : Consumption :=
  if Config.windowSize ≤ c.window.length then .waits
  else
    match step with
    | .cutArc _ _ _ _ _ _ current setpoint =>
      if lit then (if c.path = none then .fails else .consumed)
      else if !c.reentry then .fails
      else if c.window = [] then .repierces current setpoint
      else .waits
    | .cutLine _ _ _ current setpoint =>
      if lit then .consumed
      else if !c.reentry then .fails
      else if c.window = [] then .repierces current setpoint
      else .waits
    | _ => if lit then .fails else .consumed

/-- R30: the sequence check table with the waits before it. -/
def Channel.head (c : Channel) (lit : Bool) (step : Step) : Consumption :=
  match step with
  | .travel .. => c.headMotion lit step
  | .cutLine .. => c.headMotion lit step
  | .cutArc .. => c.headMotion lit step
  | .milestone _ => .consumed
  | .finish => .consumed
  | .extinguish => if c.window = [] then .consumed else .waits
  | .pierce .. => if c.window ≠ [] then .waits else if lit then .fails else .consumed
  | .mark .. => if c.window ≠ [] then .waits else if lit then .fails else .consumed
  | .check .. => if c.window ≠ [] then .waits else if lit then .fails else .consumed

/-- A consumed step is carried out, or sent (R30). -/
def State.carryOut (s : State) (g : Gantry) : Step → State
  | .travel x y feed => (s.modChannel g (fun c => { c with reentry := false })).sendMotion g (.travel x y feed)
  | .pierce current setpoint dwell => s.beginPierce g current setpoint dwell
  | .cutLine x y feed current setpoint => s.sendMotion g (.cutLine x y feed current setpoint)
  | .cutArc x y dx dy direction feed current setpoint =>
    s.sendMotion g (.cutArc x y dx dy direction feed current setpoint)
  | .extinguish => s.extinguish g
  | .mark x y part height current setpoint => s.beginMark g x y part height current setpoint
  | .milestone code => s.milestone g code
  | .check line active timeout => s.beginCheck g line active timeout
  | .finish => s.consumeEnd g

/-- R30: a RUNNING channel with no step in progress consumes steps from the head of its buffer. The fuel is one more than the
buffer holds. -/
def State.consumeN : Nat → State → Gantry → State
  | 0, s, _ => s
  | n + 1, s, g =>
    let c := s.channel g
    if c.state ≠ .running ∨ c.inProgress ≠ .none then s
    else
      match c.buffer with
      | [] => if c.window.length < Config.windowSize then s.starve g else s
      | step :: rest =>
        match c.head (s.lit g) step with
        | .waits => s
        | .fails => s.endRun g .sequenceError
        | .repierces current setpoint => s.beginRepierce g current setpoint
        | .consumed =>
          State.consumeN n ((s.modChannel g (fun c => { c with buffer := rest })).carryOut g step) g

/-- R37: an ENDING channel whose window has run out has completed its run. -/
def State.finishEnding (s : State) (g : Gantry) : State :=
  let c := s.channel g
  if c.state = .ending ∧ c.window = [] ∧ c.inProgress = .none then s.endRun g .complete else s

/-- The channel goes on after anything that may let it consume, starve or complete (R30, R37, R38). -/
def State.continueRun (s : State) (g : Gantry) : State :=
  ((s.consumeN ((s.channel g).buffer.length + 1) g).starveOut g).finishEnding g

/-! ## Step-down (R31, R32) -/

/-- R43: after a step-down, or without one, a frozen window with entries is sent again; then the channel goes on. -/
def State.pickUpWindow (s : State) (g : Gantry) : State :=
  let c := s.channel g
  (if c.frozen ∧ c.window ≠ [] then s.resend g else s).continueRun g

/-- R31, R32, R68: the step-down that ends a pierce or re-pierce. -/
def State.stepDown (s : State) (g : Gantry) : State :=
  match (s.channel g).inProgress with
  | .pierce current _ _ =>
    ((((s.stepDownBooking g current).modChannel g (fun c =>
      { c with dwellTimer := none, pierces := bump c.pierces, reentry := false, inProgress := .none })).stepDone
      g)).pickUpWindow g
  | .repierce current _ =>
    ((s.stepDownBooking g current).modChannel g (fun c =>
      { c with
        dwellTimer := none
        pierces := bump c.pierces
        repierces := bump c.repierces
        reentry := false
        inProgress := .none })).pickUpWindow g
  | _ => s

/-! ## Holds (R39-R41) -/

/-- R39: the arc is lit for cutting: a CUT step is the active entry, or a pierce or re-pierce is in its dwell. -/
def Channel.litForCutting (c : Channel) : Bool := c.activeCut.isSome || c.dwellTimer.isSome

/-- R39: a hold, its five actions in order. -/
def State.holdChannel (s : State) (g : Gantry) (cause : HeldCause) : State :=
  let s := (s.tellGantry g .halt).modChannel g (fun c => { c with haltTimer := some Config.haltTime })
  let cutting := s.lit g && (s.channel g).litForCutting
  let s := ((s.putOutIfLit g).modChannel g (fun c => { c with reentry := c.reentry || cutting })).removeWaiter g
  let s := (s.modChannel g (fun c => { c with dwellTimer := none, checkTimer := none })).settleMark g
  (s.modChannel g (fun c => { c with state := .held, heldCause := some cause })).mark (.channelEvent g)

/-- R40: the guard of the channel's bay has become active. -/
def State.guardHolds (s : State) (g : Gantry) : State :=
  let c := s.channel g
  match c.state with
  | .idle => s
  | .held =>
    if c.heldCause = some .guard then s
    else (s.modChannel g (fun c => { c with heldCause := some .guard })).mark (.channelEvent g)
  | _ => s.holdChannel g .guard

/-- R41: the loss of the arc, reported to its channel. -/
def State.lossReported (s : State) (g : Gantry) : State :=
  match (s.channel g).inProgress with
  | .mark _ _ _ _ _ _ (.writing _) =>
    ((s.settleMark g).modChannel g (fun c =>
      { c with window := c.window.filter (fun e => e.step != .markText) })).continueRun g
  | _ => (s.modChannel g (fun c => { c with reentry := true })).holdChannel g .arcLost

/-! ## Resumption (R43) -/

/-- R43: what a resumed channel picks up. -/
def State.pickUp (s : State) (g : Gantry) : State :=
  let c := s.channel g
  if c.frozen ∧ c.window ≠ [] then
    match c.activeCut, c.reentry with
    | some (current, setpoint), true => s.beginRepierce g current setpoint
    | _, _ => s.pickUpWindow g
  else
    let s := s.modChannel g (fun c => { c with frozen := false })
    match c.inProgress with
    | .pierce .. => s.request g
    | .repierce .. => s.request g
    | .check line active timeout => (s.beginCheck g line active timeout).continueRun g
    | _ => s.continueRun g

/-- R43: an accepted RESUME. -/
def State.resumeRun (s : State) (g : Gantry) : State :=
  (s.modChannel g (fun c =>
    { c with state := if c.endConsumed then .ending else .running, heldCause := none })).pickUp g

/-! ## Starts (R29) -/

/-- R29: the values the channel takes at START. -/
def Channel.started (c : Channel) (b : BayIx) (p : ArcParams) : Channel :=
  { c with
    state := .running
    bay := some b
    reentry := false
    endConsumed := false
    pierceConsumed := false
    window := []
    frozen := false
    haltTimer := none
    inProgress := .none
    path := none
    milestoneCode := 0
    milestoneCount := 0
    params := p }

/-- R29, R142: an accepted START. -/
def State.startRun (s : State) (g : Gantry) (b : BayIx) : State :=
  let s := (s.startBurning b).recomputeAll
  let s := s.modChannel g (fun c => c.started b (s.monitor g).params)
  if s.guardActive b then s.holdChannel g .guard else s.continueRun g

/-! ## Marks (R35, R88, R90) -/

/-- R35, stage 4, R88: the serial of a mark whose arc has become STABLE. -/
def State.takeSerial (s : State) (g : Gantry) : State :=
  match (s.channel g).inProgress, s.markedHeat g with
  | .mark x y part height current setpoint _, some (b, i, h) =>
    if h.next < 100000 then
      let r : TraceRecord :=
        { number := s.nextTraceNumber, channel := g, bay := b, heat := i, code := h.code, serial := some h.next, part,
          outcome := .writing }
      let seq := (s.channel g).nextSeq
      let s := (s.modHeat i (fun e => { e with next := e.next + 1 })).makeTrace r
      (s.tellGantry g (.markText seq (markString h.code h.next) height)).modChannel g (fun c =>
        { c with
          inProgress := .mark x y part height current setpoint (.writing r)
          nextSeq := seq + 1
          window := [⟨seq, .markText, c.path, none⟩] })
    else (((s.traceWithoutSerial g part .noSerial).putOut g).markDone g).continueRun g
  | _, _ => s

/-- R35, stages 2 and 3: the positioning move is done. -/
def State.markPositioned (s : State) (g : Gantry) : State :=
  match (s.channel g).inProgress with
  | .mark x y part height current setpoint .positioning =>
    (s.modChannel g (fun c =>
      { c with
        path := some ⟨x, y⟩
        inProgress := .mark x y part height current setpoint .striking })).request g
  | _ => s

/-- R35, stage 5: the text is done. -/
def State.markWritten (s : State) (g : Gantry) : State :=
  match (s.channel g).inProgress with
  | .mark _ _ _ _ _ _ (.writing record) => (((s.putOut g).settleTrace record .marked).markDone g).continueRun g
  | _ => s

/-! ## Reports of the gantry (R28, R42, R48, R49) -/

/-- R28: the entries up to and including a sequence number, with those behind them. -/
def splitAtSeq (seq : Byte) : List WindowEntry → Option (List WindowEntry × List WindowEntry)
  | [] => none
  | e :: es =>
    if e.seq = seq then some ([e], es)
    else (splitAtSeq seq es).map (fun p => (e :: p.1, p.2))

/-- R28: an entry that counts in steps done when it leaves the window; the entries of a MARK do not (R35). -/
def WindowEntry.counts (e : WindowEntry) : Bool :=
  match e.step with
  | .motion _ => true
  | _ => false

/-- What the entries that leave the window bring about: a MARK goes on to its next stage, or the next entry becomes active. Entries
that leave together leave in one action: an entry among them that was never the oldest does not become active on the way (DESIGN
CHOICE, notes/assumptions/69). -/
def State.entriesLeft (s : State) (g : Gantry) (gone : List WindowEntry) : State :=
  if gone.any (fun e => e.step == .markMove) then s.markPositioned g
  else if gone.any (fun e => e.step == .markText) then s.markWritten g
  else (s.activateCut g).continueRun g

/-- R28, R30: a DONE message. -/
def State.doneReported (s : State) (g : Gantry) (seq : Byte) : State :=
  let c := s.channel g
  if c.frozen ∨ c.haltTimer ≠ none then s.gantryStray g
  else
    match splitAtSeq seq c.window with
    | none => s.gantryStray g
    | some (gone, kept) =>
      (s.modChannel g (fun c =>
        { c with
          window := kept
          stepsDone := satAdd 65535 c.stepsDone (gone.countP WindowEntry.counts) })).entriesLeft g gone

/-- R42: a HALTED message. -/
def State.haltedReported (s : State) (g : Gantry) (x y : Nat) : State :=
  if (s.channel g).haltTimer = none then s.gantryStray g
  else
    s.modChannel g (fun c =>
      { c with haltTimer := none, path := some ⟨x, y⟩, window := c.window.filter WindowEntry.counts, frozen := true })

/-- R48: a STATUS message. -/
def State.statusReported (s : State) (g : Gantry) (code : Byte) : State :=
  let s := s.modChannel g (fun c => { c with gantryCode := code })
  if code = 0 then s else s.endIfRunning g .gantryFault

/-- R49: the gantry has fallen silent. -/
def State.gantryLost (s : State) (g : Gantry) : State :=
  (s.modChannel g (fun c => { c with gantryTimer := none })).endIfRunning g .gantrySilent

/-! ## Samples (R52, R54-R58) -/

/-- R54: STABLE is declared; the channel starts the dwell, steps down at once where it is 0, or asks for a serial. -/
def State.stableReported (s : State) (g : Gantry) : State :=
  match (s.channel g).inProgress with
  | .pierce _ _ dwell => if dwell = 0 then s.stepDown g else s.modChannel g (fun c => { c with dwellTimer := some dwell })
  | .repierce .. => s.stepDown g
  | .mark .. => s.takeSerial g
  | _ => s

/-- R54: the declaration of STABLE. -/
def State.declareStable (s : State) (g : Gantry) : State :=
  ((s.modMonitor g (fun m =>
    { m with arc := .stable, strikeTimer := none, samples := [], badCount := 0 })).mark (.channelEvent g)).stableReported g

/-- R54: a sample in STRIKING. -/
def State.strikeSample (s : State) (g : Gantry) (q : Quality) : State :=
  match q with
  | .bad => s.modMonitor g (fun m => { m with goodCount := 0 })
  | .good =>
    let s := s.modMonitor g (fun m => { m with goodCount := bump8 m.goodCount })
    if (s.channel g).params.stableCount ≤ (s.monitor g).goodCount then s.declareStable g else s

/-- R56: the newest classification joins a window of at most w. -/
def appendSample (w : Nat) (samples : List Quality) (q : Quality) : List Quality :=
  (if w ≤ samples.length then samples.drop (samples.length + 1 - w) else samples) ++ [q]

/-- R56, R57: the monitor with the sample in its window. -/
def Monitor.withSample (m : Monitor) (w : Nat) (q : Quality) : Monitor :=
  let samples := appendSample w m.samples q
  { m with samples, badCount := samples.count .bad }

/-- R58: the loss of the arc. -/
def State.loseArc (s : State) (g : Gantry) : State :=
  (((s.goDark g).modMonitor g (fun m => { m with losses := bump m.losses })).mark (.channelEvent g)).lossReported g

/-- R56, R60: STABLE becomes DISTURBED. -/
def State.disturb (s : State) (g : Gantry) : State :=
  ((s.modMonitor g (fun m =>
    { m with arc := .disturbed, heightHold := true, disturbances := bump m.disturbances })).mark
      (.channelEvent g)).tellGantry g (.heightHold true)

/-- R57, R60: DISTURBED becomes STABLE. -/
def State.calm (s : State) (g : Gantry) : State :=
  ((s.modMonitor g (fun m => { m with arc := .stable, heightHold := false })).mark (.channelEvent g)).tellGantry g
    (.heightHold false)

/-- R56, R57: a sample in STABLE or DISTURBED. -/
def State.windowSample (s : State) (g : Gantry) (q : Quality) : State :=
  let p := (s.channel g).params
  let s := s.modMonitor g (fun m => m.withSample p.window q)
  let m := s.monitor g
  if p.lossCount ≤ m.badCount then s.loseArc g
  else if m.arc = .stable then
    match q with
    | .bad => s.disturb g
    | .good => s
  else if m.badCount = 0 then s.calm g
  else s

/-- R52: the largest sample judged, 500.0 V. -/
def sampleCeiling : Nat := 5000

/-- R52: GOOD is not 0 and within the band of the setpoint, both ends included. -/
def classify (band setpoint v : Nat) : Quality :=
  if v ≠ 0 ∧ setpoint ≤ v + band ∧ v ≤ setpoint + band then .good else .bad

/-- R52: a SAMPLE message. -/
def State.sampleReported (s : State) (g : Gantry) (v : Nat) : State :=
  let m := s.monitor g
  if m.arc = .dark then s.modMonitor g (fun m => { m with discarded := bump m.discarded })
  else
    let q := classify (s.channel g).params.band (m.setpoint.getD 0) (min v sampleCeiling)
    let s := s.modMonitor g (fun m =>
      { m with
        clamped := if sampleCeiling < v then bump m.clamped else m.clamped
        classified := bump m.classified })
    if m.arc = .striking then s.strikeSample g q else s.windowSample g q

/-! ## Timers (R31, R36, R42, R55) -/

/-- R55: a failed strike, reported to its channel: a pierce ends the run, a mark is NOT_MARKED and the channel goes on. -/
def State.strikeFailed (s : State) (g : Gantry) : State :=
  match (s.channel g).inProgress with
  | .mark .. => ((s.putOut g).settleMark g).continueRun g
  | _ => s.endRun g .strikeFailed

/-- R55: the strike timer expires. -/
def State.strikeExpired (s : State) (g : Gantry) : State :=
  let p := (s.channel g).params
  if (s.monitor g).retryCount < p.strikeRetries then
    ((s.tellGantry g .torchOff).torchOn g).modMonitor g (fun m =>
      { m with
        retryCount := m.retryCount + 1
        retriesMade := bump m.retriesMade
        goodCount := 0
        strikeTimer := some p.strikeTimeout })
  else
    (s.modMonitor g (fun m =>
      { m with strikeTimer := none, strikeFailures := bump m.strikeFailures })).strikeFailed g

/-- R31: the dwell has ended. -/
def State.dwellExpired (s : State) (g : Gantry) : State :=
  (s.modChannel g (fun c => { c with dwellTimer := none })).stepDown g

/-- R36: a line's filtered state has changed; a channel that waits for it to come to this level goes on. -/
def State.checkWaiter (s : State) (line : LineIx) (g : Gantry) : State :=
  let c := s.channel g
  match c.state, c.inProgress with
  | .waitCheck, .check l active _ =>
    if l = line ∧ (s.line l).active = active then
      ((s.modChannel g (fun c =>
        { c with state := .running, checkTimer := none, inProgress := .none })).stepDone g).continueRun g
    else s
  | _, _ => s

/-- R36: every channel that waits for a line. -/
def State.checkWaiters (s : State) (line : LineIx) : State := allChannels.foldl (fun s g => s.checkWaiter line g) s

end Sys2Proof.Machine
end

