-- ==== Sys2Proof/Machine/HallOps.lean ====
section
/-! DEFINITION. The hall state controller and the field line unit (chapter 9): changes of hall state, the hall stop, the wake,
the aggregates and their reports, and the taking of a line change. -/

namespace Sys2Proof.Machine

/-! ## Hall states (R158-R163) -/

/-- R72: the hall cause a hall state gives the gate. -/
def HallState.gateCause : HallState → Option HallGateCause
  | .park => some .park
  | .purge => some .purge
  | .run => none
  | .pause => some .pause

/-- R158: the hall record at its entry into a state. -/
def Hall.entering (h : Hall) (state : HallState) (cause : HallCause) : Hall :=
  { h with
    state
    cause
    purgeTimer := if state = .purge then some (h.purgeTime * 1000) else none
    purged := if state = .park then false else if cause = .purgeDone then true else h.purged }

/-- R158: the hall record changes; a change of state or of cause marks the HALL class. -/
def State.setHallRecord (s : State) (state : HallState) (cause : HallCause) : State :=
  let differs := decide (s.hall.state ≠ state) || decide (s.hall.cause ≠ cause)
  let s := s.modHall (fun h => h.entering state cause)
  if differs then s.mark .hall else s

/-- R150: a crane when the hall enters PARK. -/
def State.parkCrane (s : State) (c : CraneId) : State :=
  match (s.crane c).state with
  | .idle => s.sendToPark c
  | .yielding => s.sendToPark c
  | _ => s

/-- R150: a crane makes for its park position. -/
def Crane.parking (k : Crane) : Bool :=
  (k.state == .travel || k.state == .wait) && (k.goal.map (·.purpose)) == some .park

/-- R150: a crane when the hall leaves PARK. -/
def State.wakeCrane (s : State) (c : CraneId) : State :=
  let k := s.crane c
  if k.state = .parked then s.restCrane c .idle
  else if k.parking then (s.tellCrane c .halt).restCrane c .idle
  else s

/-- R150, R158: what the cranes do at a change of hall state. Where both are sent to park, or halted at a wake, C1 goes first, its
park target bounded by C2's last sent target (DESIGN CHOICE, notes/assumptions/65). -/
def State.hallCranes (s : State) (old new : HallState) : State :=
  if new = .park then (s.parkCrane .c1).parkCrane .c2
  else if old = .park then (s.wakeCrane .c1).wakeCrane .c2
  else s

/-- R158: a change of hall state with its effects on the gate, the cranes and the dispatcher. -/
def State.changeHall (s : State) (state : HallState) (cause : HallCause) : State :=
  let old := s.hall.state
  let s := (s.setHallRecord state cause).setHallGate state.gateCause
  let s := s.hallCranes old state
  if s.hallWorks then s.callPass.runDuePass else s

/-- R158, R160: the hall enters a state; PURGE or RUN entered while the host is silent is paused at once. -/
def State.enterHall (s : State) (state : HallState) (cause : HallCause) : State :=
  let s := s.changeHall state cause
  if s.hallWorks && s.link.silent then s.changeHall .pause .linkSilence else s

/-- R75, R161: the hall stop aggregate becomes active: channels 1 to 4 end, then C1 and C2 stop, then the gate takes PAUSE
(the order is a DESIGN CHOICE, notes/assumptions/63). -/
def State.stopHall (s : State) : State :=
  let s := allChannels.foldl (fun s g => s.endIfRunning g .hallStop) s
  let s := (s.stopCrane .c1 .hallStop).stopCrane .c2 .hallStop
  match s.hall.state with
  | .park => s
  | .pause => s.setHallRecord .pause .stopLine
  | .purge => s.enterHall .pause .stopLine
  | .run => s.enterHall .pause .stopLine

/-- R159: the wake aggregate becomes active. -/
def State.wakeByLine (s : State) : State :=
  if s.hall.state = .park ∧ s.hallStopActive = false then s.enterHall .purge .wakeLine else s

/-- R160: the host link's silence timer expires. -/
def State.hostSilent (s : State) : State :=
  let s := s.modLink (fun l => { l with silenceTimer := none, silent := true })
  if s.hallWorks then s.enterHall .pause .linkSilence else s

/-! ## Aggregates (R155) -/

/-- R155: the report of an aggregate that has changed. -/
def State.report (s : State) (a : Aggregate) (active : Bool) : State :=
  match a, active with
  | .guard b, true =>
    let g := gantryOfBay b
    let s := if (s.channel g).bay = some b then s.guardHolds g else s
    (s.guardHaltsCrane b .c1).guardHaltsCrane b .c2
  | .guard b, false => (s.guardReleasesCrane b .c1).guardReleasesCrane b .c2
  | .overload c, true => s.overloadBegins c
  | .hallStop, true => s.stopHall
  | .wake, true => s.wakeByLine
  | _, false => s

/-- R155: the report, where the aggregate differs from what it was. -/
def State.reportIfChanged (s : State) (a : Option Aggregate) (before : State) : State :=
  match a with
  | none => s
  | some a => if s.aggregate a = before.aggregate a then s else s.report a (s.aggregate a)

/-! ## Line changes (R153, R154, R156) -/

/-- R154: a change to this filtered state matches the latch edge. -/
def LatchEdge.catches : LatchEdge → Bool → Bool
  | .enter, active => active
  | .leave, active => !active
  | .both, _ => true

/-- R153: the line after its change is taken, R154's latch included. -/
def Line.taken (l : Line) : Line :=
  let l' := { l with filtered := l.input, filterTimer := none, changes := bump l.changes }
  { l' with latch := l.latch || l.edge.catches l'.active }

/-- R153-R155, R36: a change is taken: latch and FIELD, the aggregate, then the CHECK steps that wait on the line. -/
def State.takeChange (s : State) (i : LineIx) : State :=
  let l := s.line i
  let t := s.modLine i Line.taken
  let t := if l.edge.catches (t.line i).active then t.mark .field else t
  (t.reportIfChanged l.function.aggregate s).checkWaiters i

/-- R153: the input level of a line changes. -/
def State.inputChange (s : State) (i : LineIx) (level : Level) : State :=
  let s := s.modLine i (fun l => { l with input := level })
  let l := s.line i
  match l.filterTimer with
  | some _ =>
    if level = l.filtered then
      s.modLine i (fun l => { l with filterTimer := none, glitches := bump l.glitches })
    else s
  | none =>
    if level = l.filtered then s
    else if l.filterTime = 0 then s.takeChange i
    else s.modLine i (fun l => { l with filterTimer := some l.filterTime })

/-- R156: the record of a line after LINE_SET. -/
def Line.configured (l : Line) (function : LineFunction) (activeLevel : Level) (filterTime : Nat) (edge : LatchEdge) : Line :=
  { l with
    function
    activeLevel
    filterTime
    edge
    latch := l.latch && (l.function == function && l.activeLevel == activeLevel)
    filterTimer := l.filterTimer.map (fun _ => filterTime) }

/-- R156: LINE_SET: the aggregates of the old and of the new function are reported where they change, and a CHECK step that waits
on the line sees its new filtered state. -/
def State.configureLine (s : State) (i : LineIx) (function : LineFunction) (activeLevel : Level) (filterTime : Nat)
    (edge : LatchEdge) : State :=
  let l := s.line i
  let t := s.modLine i (fun l => l.configured function activeLevel filterTime edge)
  let old := l.function.aggregate
  let new := function.aggregate
  let t := t.reportIfChanged old s
  let t := if new = old then t else t.reportIfChanged new s
  if (t.line i).active = l.active then t else t.checkWaiters i

/-! ## Hall reset (R166) -/

/-- R166: the host link through HALL_RESET: statistics, mask, sequence, replies, rate and the frame being sent are kept. -/
def Link.hallReset (l : Link) : Link :=
  { l with
    notices := put (l.notices.map (fun n => { n with pending := false, count := 0 })) 0
      { (l.notices.get 0) with pending := true, count := 1 }
    restart := .hallReset
    silenceTimer := none
    silent := false }

/-- R166: an accepted HALL_RESET. -/
def State.hallReset (s : State) : State :=
  { State.fresh .hallReset s.link.rate (s.lines.map (·.input)) with
    link := s.link.hallReset
    sent := s.sent
    pending := s.pending }

end Sys2Proof.Machine
end

