-- ==== Sys2Proof/WellFormed.lean ====
section
/-! DEFINITION. Which commands the ports and timers can bring: the checks that the type of Instr does not make. -/

namespace Sys2Proof

/-- R167: a body holds 0..252 bytes. -/
def bodyFits (body : List Byte) : Bool := body.length ≤ 252

/-- R168: a length that R167 does not allow. -/
def lengthIsBad (lo hi : Byte) : Bool := ofBytes [lo, hi] < 2 || 254 < ofBytes [lo, hi]

/-- Section 10.2: the request types. -/
def requestTypes : List Nat :=
  [0x01, 0x02, 0x03, 0x04, 0x11, 0x12, 0x13, 0x14, 0x15, 0x16, 0x17, 0x18, 0x19, 0x1A, 0x21, 0x22, 0x23, 0x24, 0x25, 0x26]
  ++ [0x31, 0x32, 0x33, 0x34, 0x35, 0x36, 0x37, 0x38, 0x39, 0x41, 0x42, 0x51, 0x52, 0x53, 0x54, 0x55, 0x56]
  ++ [0x61, 0x62, 0x63, 0x64, 0x65, 0x66, 0x67, 0x68, 0x69, 0x71, 0x72, 0x73, 0x74, 0x75, 0x76, 0x77, 0x78]

/-- R48: the messages from a gantry, as type and body length. -/
def gantryMessageShapes : List (Nat × Nat) := [(0x81, 0), (0x82, 6), (0x83, 2), (0x84, 9), (0x85, 1)]

/-- R136: the messages from a crane, as type and body length. -/
def craneMessageShapes : List (Nat × Nat) := [(0x81, 6), (0x82, 4), (0x83, 0), (0x84, 0)]

/-- The body of the command's frame fits the envelope; a command without a frame passes. -/
def frameFits (i : Instr) : Bool :=
  match commandFrame i with
  | some (_, f) => bodyFits f.body
  | none => true

/-- Well-formed commands: the body fits; an unknown type is none of section 10.2; a stray frame is no message of R48 or R136;
a READ carries eight characters; an abandoned length lies outside 2..254; an order number is 1..65 535. -/
def Instr.wf (i : Instr) : Bool :=
  frameFits i &&
    match i with
    | .unknownTypeRequest typ _ _ => !requestTypes.contains typ.toNat
    | .gantryRead _ _ chars => chars.length == 8
    | .gantryStrayFrame _ typ body => !gantryMessageShapes.contains (typ.toNat, body.length)
    | .craneStrayFrame _ typ body => !craneMessageShapes.contains (typ.toNat, body.length)
    | .invalidFrame _ (.badLength lo hi) => lengthIsBad lo hi
    | .orderPromotion number => 1 ≤ number && number ≤ 65535
    | _ => true

end Sys2Proof
end

