-- ==== Sys2Proof/Machine/LinkOps.lean ====
section
/-! DEFINITION. The host link (chapter 10): how a request is served and answered, the receivers, and the transmitter. -/

namespace Sys2Proof.Machine

/-- What a command comes to. -/
abbrev Reaction := Host.Outcome State Fault Refusal

/-- The end of every event's action: the dispatch pass its events called for is run (R127). -/
def State.react (s : State) : Reaction := .next s.runDuePass

/-! ## Requests and replies (R169, R170) -/

/-- What a request leaves: the state, the result code and the values of its reply. -/
structure Answer where
  state : State
  code : ResultCode
  values : List Byte
deriving DecidableEq, Repr

/-- An accepted request. -/
def Answer.ok (s : State) (values : List Byte) : Answer := ⟨s, .ok, values⟩

/-- R169: a refused request, which takes no effect and whose reply carries only the code. -/
def Answer.refuse (s : State) (code : ResultCode) : Answer := ⟨s, code, []⟩

/-- R169: the out-of-range test: a body whose fields do not read is refused with BAD_FIELD. -/
def Answer.fields {α : Type} (s : State) (fields : Option α) (act : α → Answer) : Answer :=
  match fields with
  | some x => act x
  | none => Answer.refuse s .badField

/-- A test of the owning rule: the request goes on where it gives OK, and is refused with its code where it does not. -/
def Answer.test (s : State) (code : ResultCode) (act : Answer) : Answer :=
  match code with
  | .ok => act
  | _ => Answer.refuse s code

/-- R169, R170: a request's frame is taken; with 4 replies in the queue it is an overrun; otherwise its length is tested, its
rule acts, its reply joins the queue, and the dispatch pass its events called for is run (R127). -/
def State.serve (s : State) (typ tag : Byte) (fits : Bool) (act : State → Answer) : State :=
  let s := s.hostFrameTaken
  if Config.replyQueueSize ≤ s.link.replies.length then s.modStats (fun t => { t with overruns := bump t.overruns })
  else
    let a := if fits then act s else Answer.refuse s .badLength
    (a.state.queueReply { typ := typ + 0x80, tag, body := u8 a.code.code ++ a.values }).runDuePass

/-- R169: a frame of an unknown type. -/
def State.serveUnknown (s : State) (typ tag : Byte) : State :=
  let s := s.hostFrameTaken
  if Config.replyQueueSize ≤ s.link.replies.length then s.modStats (fun t => { t with overruns := bump t.overruns })
  else s.queueReply { typ := 0xFF, tag, body := u8 ResultCode.badType.code ++ [typ] }

/-! ## Receivers (R168) -/

/-- What a receiver makes of a byte. -/
inductive Heard where
  | nothing
  | badLength
  | badCrc
  | valid (f : Frame)
deriving DecidableEq, Repr

/-- R168: after a length error the hunt resumes at the first length byte. -/
def rehunt (lo hi : Byte) : Receiver :=
  if lo = leadByte then .frame [hi] else if hi = leadByte then .frame [] else .hunt

/-- R168: the last CRC byte is in: the bytes after the lead byte. -/
def judge (all : List Byte) : Heard :=
  let covered := all.take (all.length - 2)
  if toBytes 2 (crc covered).toNat = all.drop (all.length - 2) then
    .valid { typ := all.getD 2 0, tag := all.getD 3 0, body := covered.drop 4 }
  else .badCrc

/-- R168: one byte. -/
def Receiver.take (r : Receiver) (b : Byte) : Receiver × Heard :=
  match r with
  | .hunt => if b = leadByte then (.frame [], .nothing) else (.hunt, .nothing)
  | .frame got =>
    let all := got ++ [b]
    if all.length < 2 then (.frame all, .nothing)
    else if all.length = 2 then
      if lengthIsBad (all.getD 0 0) (all.getD 1 0) then (rehunt (all.getD 0 0) (all.getD 1 0), .badLength)
      else (.frame all, .nothing)
    else if all.length < ofBytes (all.take 2) + 4 then (.frame all, .nothing)
    else (.hunt, judge all)

/-- R168: the counts are kept for the host link only. -/
def State.countIfHost (s : State) (p : Port) (f : LinkStats → LinkStats) : State :=
  match p with
  | .host => s.modStats f
  | .gantry _ => s
  | .crane _ => s

def LinkStats.lengthError (t : LinkStats) : LinkStats := { t with lengthErrors := bump t.lengthErrors }
def LinkStats.crcError (t : LinkStats) : LinkStats := { t with crcErrors := bump t.crcErrors }
def LinkStats.silence (t : LinkStats) : LinkStats := { t with silences := bump t.silences }

/-- R168: an abandoned frame. -/
def State.abandon (s : State) (p : Port) (why : FrameError) : State :=
  match why with
  | .badLength lo hi => (s.setReceiver p (rehunt lo hi)).countIfHost p LinkStats.lengthError
  | .badCrc => (s.setReceiver p .hunt).countIfHost p LinkStats.crcError

/-- R168: 5 ms pass between two bytes of one frame; a receiver in HUNT has no frame to abandon. -/
def State.gapTimeout (s : State) (p : Port) : State :=
  match s.receivers.get p with
  | .hunt => s
  | .frame _ => (s.setReceiver p .hunt).countIfHost p LinkStats.silence

/-- R168: a byte that leaves no valid frame behind. -/
def State.heard (s : State) (p : Port) : Heard → State
  | .nothing => s
  | .badLength => s.countIfHost p LinkStats.lengthError
  | .badCrc => s.countIfHost p LinkStats.crcError
  | .valid _ => s

/-! ## The transmitter (R174) -/

/-- R174: the frame the transmitter begins. -/
def State.transmit (s : State) (f : Frame) : State :=
  (s.modLink (fun l => { l with sending := some f })).emit (.host f)

/-- R174: an idle transmitter begins the oldest reply. -/
def State.sendReply (s : State) : State :=
  match s.link.sending, s.link.replies with
  | none, f :: rest => (s.modLink (fun l => { l with replies := rest })).transmit f
  | _, _ => s

/-- R173, R174: the highest-priority class that is pending and enabled, where the master enable is on. -/
def State.nextNotice (s : State) : Option NoticeClass :=
  if s.link.master then allNotices.find? (fun k => (s.notice k).pending && (s.notice k).enabled) else none

/-- R174: an idle transmitter with no reply queued begins a notice: the snapshot is taken, the class is cleared, and the notice
sequence moves on. -/
def State.sendNotice (s : State) : State :=
  match s.link.sending, s.link.replies, s.nextNotice with
  | none, [], some k =>
    let f := s.noticeFrame k
    ((s.clearNotice k).modLink (fun l => { l with sequence := l.sequence + 1 })).transmit f
  | _, _, _ => s

end Sys2Proof.Machine
end

