-- ==== Sys2Proof/Machine/BayFamily.lean ====
section
/-! DEFINITION. The requests of the bay table (chapter 1). -/

namespace Sys2Proof.Machine

/-- R17: BAY_STATUS. -/
def bayStatusRequest (body : List Byte) (s : State) : Answer :=
  Answer.fields s (numbered 8 (num body 0 1)) (fun b => .ok s (s.bayStatusBytes b))

def execBayStatus (tag : Byte) (body : List Byte) (s : State) : Reaction :=
  .next (s.serve 0x21 tag (body.length == 1) (bayStatusRequest body))

/-- R13: the plate that BAY_DECLARE states. -/
def Declared.plate (d : Declared) (grade : Nat) : Plate :=
  { heat := d.heat, grade, thickness := d.thickness, width := d.width, length := d.length, remnant := none,
    identity := .unchecked }

/-- R13: BAY_DECLARE. -/
def bayDeclareRequest (body : List Byte) (s : State) : Answer :=
  Answer.fields s (declared? body) (fun d =>
    match s.heat d.heat with
    | none => .refuse s .unknownHeat
    | some h =>
      match (s.bay d.bay).state with
      | .loading => .refuse s .bayClaimed
      | .unloading => .refuse s .bayClaimed
      | .empty =>
        .ok (((s.modBay d.bay (fun k => k.toPlaced (d.plate h.grade))).addRef d.heat).bayChanged d.bay) []
      | _ => .refuse s .wrongState)

def execBayDeclare (tag : Byte) (body : List Byte) (s : State) : Reaction :=
  .next (s.serve 0x22 tag (body.length == 7) (bayDeclareRequest body))

/-- R14: a bay released for burning. -/
def Bay.accept (k : Bay) : Bay :=
  { k with state := .ready, plate := k.plate.map (fun p => { p with identity := .accepted }) }

/-- R14: BAY_ACCEPT. -/
def bayAcceptRequest (body : List Byte) (s : State) : Answer :=
  Answer.fields s (numbered 8 (num body 0 1)) (fun b =>
    match (s.bay b).state with
    | .loading => .refuse s .bayClaimed
    | .unloading => .refuse s .bayClaimed
    | .placed => .ok ((s.modBay b Bay.accept).bayChanged b) []
    | .mismatch => .ok ((s.modBay b Bay.accept).bayChanged b) []
    | _ => .refuse s .wrongState)

def execBayAccept (tag : Byte) (body : List Byte) (s : State) : Reaction :=
  .next (s.serve 0x23 tag (body.length == 1) (bayAcceptRequest body))

/-- R15, R103: the plate record is dropped with its reference, and a remnant it names becomes VACANT. -/
def State.dropPlate (s : State) (p : Plate) : State :=
  let s := s.dropRef p.heat
  match p.remnant with
  | some i => s.vacate i
  | none => s

/-- R15: the bay is emptied by hand. -/
def State.clearBay (s : State) (b : BayIx) : State :=
  let plate := (s.bay b).plate
  let s := s.modBay b Bay.toEmpty
  let s :=
    match plate with
    | some p => s.dropPlate p
    | none => s
  s.bayChanged b

/-- R15: BAY_CLEAR. -/
def bayClearRequest (body : List Byte) (s : State) : Answer :=
  Answer.fields s (numbered 8 (num body 0 1)) (fun b =>
    match (s.bay b).state with
    | .loading => .refuse s .bayClaimed
    | .unloading => .refuse s .bayClaimed
    | .empty => .refuse s .wrongState
    | .burning => .refuse s .wrongState
    | _ => .ok (s.clearBay b) [])

def execBayClear (tag : Byte) (body : List Byte) (s : State) : Reaction :=
  .next (s.serve 0x24 tag (body.length == 1) (bayClearRequest body))

/-- R22: the two reader rules. -/
def readerRule? (body : List Byte) : Option (Nat × Nat) :=
  let k := num body 0 1
  let n := num body 1 1
  if (k = 4 ∧ n = 5) ∨ (k = 8 ∧ n = 10) then some (k, n) else none

/-- R22: READER_SET. -/
def readerSetRequest (body : List Byte) (s : State) : Answer :=
  Answer.fields s (readerRule? body) (fun r =>
    .ok (s.modBayTable (fun t =>
      { t with readerK := r.1, readerN := r.2, bays := t.bays.map (fun k => { k with history := [] }) })) [])

def execReaderSet (tag : Byte) (body : List Byte) (s : State) : Reaction :=
  .next (s.serve 0x25 tag (body.length == 2) (readerSetRequest body))

/-- R3: PLACES_SET. -/
def placesSetRequest (body : List Byte) (s : State) : Answer :=
  Answer.fields s (layout? body) (fun l =>
    if s.hall.state ≠ .park then .refuse s .wrongState
    else if l.condition s.settings.margin s.settings.park then .ok (s.modBayTable (fun t => { t with layout := l })) []
    else .refuse s .badField)

def execPlacesSet (tag : Byte) (body : List Byte) (s : State) : Reaction :=
  .next (s.serve 0x26 tag (body.length == 92) (placesSetRequest body))

end Sys2Proof.Machine
end

