-- ==== Sys2Proof/Machine/BudgetFamily.lean ====
section
/-! DEFINITION. The requests of the feeder budget unit (chapter 4). -/

namespace Sys2Proof.Machine

/-- R77: one impossible waiter: it is counted and marked, and its channel's run ends. -/
def State.endImpossible (s : State) (w : Waiter) : State :=
  ((s.modBudget (fun b => { b with impossible := bump b.impossible })).mark .budget).endRun w.channel .budgetImpossible

/-- R77: the waiters above L leave the list, oldest first. -/
def State.dropImpossible (s : State) : State :=
  let gone := s.budget.waitList.filter (fun w => decide (s.budget.limit < w.amount))
  let s := s.modBudget (fun b => { b with waitList := b.waitList.filter (fun w => decide (w.amount ≤ b.limit)) })
  gone.foldl State.endImpossible s

/-- R76: an accepted BUDGET_SET, its actions in order. -/
def State.setBudget (s : State) (v : BudgetValues) : State :=
  let s := (s.modBudget (fun b => { b with limit := v.limit, high := v.high, low := v.low, surge := v.surge })).mark .budget
  s.dropImpossible.evalLoad.testWaitList

/-- R76: BUDGET_SET. -/
def budgetSetRequest (body : List Byte) (s : State) : Answer :=
  Answer.fields s (budgetValues? body) (fun v =>
    if v.limit < s.budget.total then .refuse s .limitBelowLoad else .ok (s.setBudget v) [])

def execBudgetSet (tag : Byte) (body : List Byte) (s : State) : Reaction :=
  .next (s.serve 0x41 tag (body.length == 7) (budgetSetRequest body))

/-- R78: BUDGET_STATUS. -/
def execBudgetStatus (tag : Byte) (body : List Byte) (s : State) : Reaction :=
  .next (s.serve 0x42 tag body.isEmpty (fun s => .ok s s.budget.statusBytes))

end Sys2Proof.Machine
end

