-- ==== Sys2Proof/Machine/ChannelFamily.lean ====
section
/-! DEFINITION. The requests of the burn channels and arc monitors (chapters 2 and 3), the messages of the gantries, and the
channels' timers. -/

namespace Sys2Proof.Machine

/-! ## Requests -/

/-- A channel number at the head of a body. -/
def channel? (body : List Byte) : Option Gantry := numbered 4 (num body 0 1)

/-- R26: a PIERCE step whose amount exceeds L. -/
def Step.exceeds (b : Budget) : Step → Bool
  | .pierce current _ _ => decide (b.limit < pierceAmount current b.surge)
  | _ => false

/-- R26, R38: an accepted STEPS. -/
def State.appendSteps (s : State) (g : Gantry) (steps : List Step) : State :=
  let s := s.modChannel g (fun c => { c with buffer := c.buffer ++ steps })
  match (s.channel g).state with
  | .starved => (s.modChannel g (fun c => { c with state := .running })).continueRun g
  | .running => s.continueRun g
  | _ => s

/-- R26: STEPS. The reply's free space is what the append leaves, before the channel goes on. -/
def stepsRequest (body : List Byte) (s : State) : Answer :=
  Answer.fields s (stepsBody body) (fun r =>
    let free := (s.channel r.1).freeSpace
    if r.2.any (Step.exceeds s.budget) then .refuse s .stepExceedsLimit
    else if free < r.2.length then
      .refuse (s.modChannel r.1 (fun c => { c with bufferFull := bump c.bufferFull })) .bufferFull
    else .ok (s.appendSteps r.1 r.2) (u8 (free - r.2.length)))

def execSteps (tag : Byte) (body : List Byte) (s : State) : Reaction :=
  .next (s.serve 0x31 tag (stepsLength body) (stepsRequest body))

/-- R29: the channel and one of its own bays. -/
def start? (body : List Byte) : Option (Gantry × BayIx) := do
  let g ← numbered 4 (num body 0 1)
  let b ← numbered 8 (num body 1 1)
  if gantryOfBay b = g then some (g, b) else none

/-- R29: what START asks of the channel, the hall and the gantry. -/
def State.mayStart (s : State) (g : Gantry) : Bool :=
  (s.channel g).state == .idle && s.hallWorks && (s.channel g).gantryPresent && (s.channel g).gantryCode == 0

/-- R29: START. -/
def startRequest (body : List Byte) (s : State) : Answer :=
  Answer.fields s (start? body) (fun r =>
    if !s.mayStart r.1 then .refuse s .wrongState
    else if (s.bay r.2).state ≠ .ready then .refuse s .bayNotReady
    else if s.overhead r.2 then .refuse s .bayOverhead
    else .ok (s.startRun r.1 r.2) [])

def execStart (tag : Byte) (body : List Byte) (s : State) : Reaction :=
  .next (s.serve 0x32 tag (body.length == 2) (startRequest body))

/-- R39: HOLD. -/
def holdRequest (body : List Byte) (s : State) : Answer :=
  Answer.fields s (channel? body) (fun g =>
    match (s.channel g).state with
    | .idle => .refuse s .wrongState
    | .held => .refuse s .wrongState
    | .ending => .refuse s .wrongState
    | _ => .ok (s.holdChannel g .host) [])

def execHold (tag : Byte) (body : List Byte) (s : State) : Reaction :=
  .next (s.serve 0x33 tag (body.length == 1) (holdRequest body))

/-- R43: the held cause is GUARD and the guard of the bay is still active. -/
def State.guardHeld (s : State) (g : Gantry) : Bool :=
  (s.channel g).heldCause == some .guard && ((s.channel g).bay.map s.guardActive).getD false

/-- R43: RESUME. -/
def resumeRequest (body : List Byte) (s : State) : Answer :=
  Answer.fields s (channel? body) (fun g =>
    if (s.channel g).state ≠ .held ∨ (s.channel g).haltTimer ≠ none ∨ s.guardHeld g ∨ !s.hallWorks then
      .refuse s .wrongState
    else .ok (s.resumeRun g) [])

def execResume (tag : Byte) (body : List Byte) (s : State) : Reaction :=
  .next (s.serve 0x34 tag (body.length == 1) (resumeRequest body))

/-- R44: STOP. -/
def stopRequest (body : List Byte) (s : State) : Answer :=
  Answer.fields s (channel? body) (fun g =>
    if (s.channel g).state = .idle then .refuse s .wrongState else .ok (s.endRun g .aborted) [])

def execStop (tag : Byte) (body : List Byte) (s : State) : Reaction :=
  .next (s.serve 0x35 tag (body.length == 1) (stopRequest body))

/-- R27: FLUSH. -/
def flushRequest (body : List Byte) (s : State) : Answer :=
  Answer.fields s (channel? body) (fun g =>
    if (s.channel g).state = .idle then .ok (s.modChannel g (fun c => { c with buffer := [] })) []
    else .refuse s .wrongState)

def execFlush (tag : Byte) (body : List Byte) (s : State) : Reaction :=
  .next (s.serve 0x36 tag (body.length == 1) (flushRequest body))

/-- R47: CHANNEL_STATUS. -/
def channelStatusRequest (body : List Byte) (s : State) : Answer :=
  Answer.fields s (channel? body) (fun g => .ok s (s.channel g).statusBytes)

def execChannelStatus (tag : Byte) (body : List Byte) (s : State) : Reaction :=
  .next (s.serve 0x37 tag (body.length == 1) (channelStatusRequest body))

/-- R61: the selector and the six parameters. -/
def arcSetting? (body : List Byte) : Option (Option Gantry × ArcParams) := do
  let g ← selector? (num body 0 1)
  let p ← arcParams? body
  some (g, p)

/-- R61: the set parameters of one monitor, or of all four, replaced whole. -/
def State.setArc (s : State) (g : Option Gantry) (p : ArcParams) : State :=
  match g with
  | some g => s.modMonitor g (fun m => { m with params := p })
  | none => { s with monitors := s.monitors.map (fun m => { m with params := p }) }

/-- R61: ARC_SET. -/
def arcSetRequest (body : List Byte) (s : State) : Answer :=
  Answer.fields s (arcSetting? body) (fun r => .ok (s.setArc r.1 r.2) [])

def execArcSet (tag : Byte) (body : List Byte) (s : State) : Reaction :=
  .next (s.serve 0x38 tag (body.length == 9) (arcSetRequest body))

/-- R63: ARC_STATUS. -/
def arcStatusRequest (body : List Byte) (s : State) : Answer :=
  Answer.fields s (channel? body) (fun g => .ok s (s.monitor g).statusBytes)

def execArcStatus (tag : Byte) (body : List Byte) (s : State) : Reaction :=
  .next (s.serve 0x39 tag (body.length == 1) (arcStatusRequest body))

/-! ## Gantry messages -/

/-- R28: DONE. -/
def execGantryDone (g : Gantry) (seq : Byte) (s : State) : Reaction := ((s.gantryFrameTaken g).doneReported g seq).react

/-- R42: HALTED. -/
def execGantryHalted (g : Gantry) (x : BitVec 32) (y : BitVec 16) (s : State) : Reaction :=
  .next ((s.gantryFrameTaken g).haltedReported g x.toNat y.toNat)

/-- R52: SAMPLE. -/
def execGantrySample (g : Gantry) (voltage : BitVec 16) (s : State) : Reaction :=
  ((s.gantryFrameTaken g).sampleReported g voltage.toNat).react

/-- R18: the bay a READ of gantry g is taken for; none is misdirected. -/
def readBay (g : Gantry) (bay : Byte) : Option BayIx := do
  let b ← numbered 8 bay.toNat
  if gantryOfBay b = g then some b else none

/-- R18: READ. -/
def State.readReported (s : State) (g : Gantry) (bay : Byte) (chars : List Byte) : State :=
  match readBay g bay with
  | some b => s.takeRead b chars
  | none => s.modBayTable (fun t => { t with misdirected := bump t.misdirected })

def execGantryRead (g : Gantry) (bay : Byte) (chars : List Byte) (s : State) : Reaction :=
  .next ((s.gantryFrameTaken g).readReported g bay chars)

/-- R48: STATUS. -/
def execGantryStatus (g : Gantry) (code : Byte) (s : State) : Reaction :=
  ((s.gantryFrameTaken g).statusReported g code).react

/-- R48: a frame of another type, or of a length that its type does not have. -/
def execGantryStrayFrame (g : Gantry) (_typ : Byte) (_body : List Byte) (s : State) : Reaction :=
  .next ((s.gantryFrameTaken g).gantryStray g)

/-- R49: the 100 ms silence timer expires; a stopped timer has no expiry. -/
def execGantrySilenceTimeout (g : Gantry) (s : State) : Reaction :=
  if (s.channel g).gantryTimer = none then .next s else (s.gantryLost g).react

/-! ## Channel and arc timers; a stopped timer has no expiry -/

/-- R42: the halt timer expires before HALTED. -/
def execHaltTimerExpiry (g : Gantry) (s : State) : Reaction :=
  if (s.channel g).haltTimer = none then .next s else (s.endRun g .gantryFault).react

/-- R31: the dwell ends. -/
def execDwellTimerExpiry (g : Gantry) (s : State) : Reaction :=
  if (s.channel g).dwellTimer = none then .next s else (s.dwellExpired g).react

/-- R36: the check timer expires. -/
def execCheckTimerExpiry (g : Gantry) (s : State) : Reaction :=
  if (s.channel g).checkTimer = none then .next s else (s.endRun g .checkTimeout).react

/-- R55: the strike timer expires. -/
def execStrikeTimerExpiry (g : Gantry) (s : State) : Reaction :=
  if (s.monitor g).strikeTimer = none then .next s else (s.strikeExpired g).react

end Sys2Proof.Machine
end

