-- ==== Sys2Proof/Machine/CraneFamily.lean ====
section
/-! DEFINITION. The requests of the dispatcher and the runway controller (chapters 7 and 8), the messages of the cranes, their
timers, and promotion. -/

namespace Sys2Proof.Machine

/-! ## Orders -/

/-- R118: one more submission refused. -/
def State.countRefused (s : State) : State := s.modDispatcher (fun d => { d with refused := bump d.refused })

/-- R118: ORDER_SUBMIT. A refusal of any test is counted. -/
def orderSubmitRequest (body : List Byte) (s : State) : Answer :=
  match submission? body with
  | none => .refuse s.countRefused .badField
  | some u =>
    match s.submissionTest u with
    | .ok => .ok (s.acceptOrder u) (u16 s.dispatcher.counter)
    | code => .refuse s.countRefused code

def execOrderSubmit (tag : Byte) (body : List Byte) (s : State) : Reaction :=
  .next (s.serve 0x71 tag (body.length == 13) (orderSubmitRequest body))

/-- R131: the ended-order history holds the number. -/
def State.ended (s : State) (n : Nat) : Option Ended := s.dispatcher.history.find? (fun e => e.number == n)

/-- R131, R132: an open order of the number; where there is none, the code of the refusal. -/
def State.openOrder (s : State) (n : Nat) (act : Order → Answer) : Answer :=
  match s.order n with
  | some o => act o
  | none => if (s.ended n).isSome then .refuse s .wrongState else .refuse s .unknownOrder

/-- R131: the order is cancelled. Its crane is halted and becomes IDLE where the order is ASSIGNED. -/
def State.cancelOrder (s : State) (o : Order) : State :=
  let s := s.endUndone o .cancelled .host
  match o.state, o.crane with
  | .assigned, some c => (s.tellCrane c .halt).becomeIdle c
  | _, _ => s

/-- R131: ORDER_CANCEL. -/
def orderCancelRequest (body : List Byte) (s : State) : Answer :=
  Answer.fields s (within 1 65535 (num body 0 2)) (fun n =>
    s.openOrder n (fun o =>
      match o.phase with
      | none => .ok (s.cancelOrder o) []
      | some .assigned => .ok (s.cancelOrder o) []
      | _ => .refuse s .orderLoaded))

def execOrderCancel (tag : Byte) (body : List Byte) (s : State) : Reaction :=
  .next (s.serve 0x72 tag (body.length == 2) (orderCancelRequest body))

/-- R132, tests 4 to 7. -/
def State.redirectTest (s : State) (o : Order) (c : CraneId) (dest : Site) : ResultCode :=
  if !o.kind.allowsDest dest ∨ dest = o.dest then .badField
  else
    (match dest with
      | .bay b => s.destBayTest b
      | .rack k => (s.destSlotTest k).andThen (remnantLoadTest o.load)
      | _ => .ok).andThen
      (if !s.settings.reaches c dest then .noCrane
      else if s.spanTest c [s.layout.position dest] = SpanOutcome.incompatible then .spanBlocked
      else .ok)

/-- R132, R139, R141: an accepted redirect: the claims move, the yield it calls for is sent, and the crane's target is computed
anew. From bay to bay two records change, and each counts as an event of R16: BAY is marked twice (DESIGN CHOICE,
notes/assumptions/61). -/
def State.redirect (s : State) (o : Order) (c : CraneId) (dest : Site) : State :=
  let outcome := s.spanTest c [s.layout.position dest]
  let s := ((s.releaseDest o).claimDest dest o.number).modOrder o.number (fun o => { o with dest })
  let s :=
    match outcome with
    | .yields position => s.sendYield c.other position
    | _ => s
  let s := s.modCrane c (fun k => { k with goal := some ⟨s.layout.position dest, .order⟩ })
  (s.recompute ⟨c = .c1, c = .c2⟩).mark (.crane c)

/-- R132: ORDER_REDIRECT. -/
def orderRedirectRequest (body : List Byte) (s : State) : Answer :=
  Answer.fields s (redirection? body) (fun r =>
    s.openOrder r.1 (fun o =>
      match o.state, o.crane with
      | .carrying, some c => Answer.test s (s.redirectTest o c r.2) (.ok (s.redirect o c r.2) [])
      | _, _ => .refuse s .wrongState))

def execOrderRedirect (tag : Byte) (body : List Byte) (s : State) : Reaction :=
  .next (s.serve 0x73 tag (body.length == 4) (orderRedirectRequest body))

/-- R133: ORDER_STATUS. -/
def orderStatusRequest (body : List Byte) (s : State) : Answer :=
  let n := num body 0 2
  if n = 0 then .ok s s.dispatcher.bytes
  else
    match s.order n, s.ended n with
    | some o, _ => .ok s (o.bytes (s.dispatcher.position n))
    | none, some e => .ok s e.bytes
    | none, none => .refuse s .unknownOrder

def execOrderStatus (tag : Byte) (body : List Byte) (s : State) : Reaction :=
  .next (s.serve 0x74 tag (body.length == 2) (orderStatusRequest body))

/-! ## Cranes -/

/-- R151: CRANE_STATUS. -/
def craneStatusRequest (body : List Byte) (s : State) : Answer :=
  Answer.fields s (crane? (num body 0 1)) (fun c => .ok s (s.craneStatusBytes c))

def execCraneStatus (tag : Byte) (body : List Byte) (s : State) : Reaction :=
  .next (s.serve 0x75 tag (body.length == 1) (craneStatusRequest body))

/-- The order in hand is in a phase. -/
def State.inPhase (s : State) (c : CraneId) (p : Phase) : Bool := (s.orderInHand c).bind (·.phase) == some p

/-- R136, R148: a load the part does not know hangs on the hook. -/
def State.unknownLoad (s : State) (c : CraneId) : Bool :=
  (s.crane c).hookLoaded && !(s.crane c).loaded && !s.inPhase c .lifting

/-- R148: the six conditions that refuse. -/
def State.mayResume (s : State) (c : CraneId) : Bool :=
  (s.crane c).state == .stopped && (s.crane c).drive == 0 && !s.overloadActive c && !s.hallStopActive && !s.tooClose &&
    !s.unknownLoad c

/-- R148: a crane without an order becomes IDLE, or STRANDED with its load. -/
def State.resumeEmpty (s : State) (c : CraneId) : State :=
  if (s.crane c).loaded then s.restCrane c .stranded else s.becomeIdle c

/-- R148: the order returns to its phase and the crane takes it up. -/
def State.resumePhase (s : State) (c : CraneId) (o : Order) (p : Phase) : State :=
  let s := s.modOrder o.number (fun o => { o with state := p.state, suspendedPhase := none })
  match p with
  | .assigned => (s.travelTo c o.source).recomputeOther c
  | .carrying => (s.travelTo c o.dest).recomputeOther c
  | .lifting => s.hoist c (if (s.crane c).withdrawn then .hoistSet else .hoistPick)
  | .lowering => s.beginLowering c o.dest

/-- R148: an accepted CRANE_RESUME. -/
def State.resumeCrane (s : State) (c : CraneId) : State :=
  match s.orderInHand c with
  | none => s.resumeEmpty c
  | some o =>
    match o.phase with
    | some p => s.resumePhase c o p
    | none => s.resumeEmpty c

/-- R148: CRANE_RESUME. -/
def craneResumeRequest (body : List Byte) (s : State) : Answer :=
  Answer.fields s (crane? (num body 0 1)) (fun c =>
    if s.mayResume c then .ok (s.resumeCrane c) [] else .refuse s .wrongState)

def execCraneResume (tag : Byte) (body : List Byte) (s : State) : Reaction :=
  .next (s.serve 0x76 tag (body.length == 1) (craneResumeRequest body))

/-- R149: an accepted CRANE_CLEAR. -/
def State.clearCrane (s : State) (c : CraneId) : State :=
  let order := s.orderInHand c
  let s := s.modCrane c (fun k => { k with withdrawn := false, goal := none })
  let s :=
    match order with
    | some o => s.endUndone o .failed .cleared
    | none => s
  (s.resumeEmpty c).callPass

/-- R149: CRANE_CLEAR. -/
def craneClearRequest (body : List Byte) (s : State) : Answer :=
  Answer.fields s (crane? (num body 0 1)) (fun c =>
    if (s.crane c).state = .stopped then .ok (s.clearCrane c) [] else .refuse s .wrongState)

def execCraneClear (tag : Byte) (body : List Byte) (s : State) : Reaction :=
  .next (s.serve 0x77 tag (body.length == 1) (craneClearRequest body))

/-- R134: a crane at or on its way to a park position that has changed is sent to the new one. -/
def State.repark (s : State) (before : ByCrane Nat) (c : CraneId) : State :=
  let k := s.crane c
  let parking := (k.state == .travel || k.state == .wait) && (k.goal.map (·.purpose)) == some .park
  if (k.state = .parked ∨ parking) ∧ before.get c ≠ s.settings.park.get c then s.sendToPark c else s

/-- R134: an accepted CRANE_SET. Where both cranes are sent to park anew C1 goes first, its target bounded by C2's last sent target
(DESIGN CHOICE, notes/assumptions/65). -/
def State.setCranes (s : State) (t : CraneSettings) : State :=
  let before := s.settings.park
  let s := s.modDispatcher (fun d => { d with settings := t })
  ((s.repark before .c1).repark before .c2).promoteDue.callPass

/-- R134: CRANE_SET. -/
def craneSetRequest (body : List Byte) (s : State) : Answer :=
  Answer.fields s (craneSettings? body) (fun t =>
    if s.hall.state ≠ .park then .refuse s .wrongState
    else if !s.layout.condition t.margin t.park ∨ t.park.c2 < t.park.c1 + t.separation then .refuse s .badField
    else .ok (s.setCranes t) [])

def execCraneSet (tag : Byte) (body : List Byte) (s : State) : Reaction :=
  .next (s.serve 0x78 tag (body.length == 38) (craneSetRequest body))

/-! ## STATUS (R136, R137) -/

/-- R136: the hook byte of a STATUS; a byte that is neither 0 nor 1 reads as a free value (notes/assumptions/2). -/
def hookFlag (hook : Byte) : Bool := if hook = 1 then true else if hook = 0 then false else Config.openHook hook

/-- R136: position, hook flag and drive code of a STATUS. -/
def State.takeStatus (s : State) (c : CraneId) (position : Nat) (hook code : Byte) : State :=
  (s.reportPosition c position).modCrane c (fun k => { k with hookLoaded := hookFlag hook, drive := code })

/-- R137: a crane that comes back STOPPED, with no HALT sent (DESIGN CHOICE, notes/assumptions/70). -/
def State.returnStopped (s : State) (c : CraneId) (cause : StopCause) : State :=
  s.updateCrane c (fun k => { k with state := .stopped, stopCause := some cause, waitCause := none })

/-- R137: the crane is in hall PARK within 100 mm of its park position. -/
def State.standsParked (s : State) (c : CraneId) : Bool :=
  s.hall.state == .park && decide (distance (s.crane c).position (s.settings.park.get c) ≤ 100)

/-- R137: the state in which a crane comes back from OFFLINE, the first that applies. -/
def State.comeBack (s : State) (c : CraneId) : State :=
  let k := s.crane c
  if s.hallStopActive then s.returnStopped c .hallStop
  else if k.order.isSome ∨ k.drive ≠ 0 then s.returnStopped c .fault
  else if k.hookLoaded && k.loaded then s.restCrane c .stranded
  else if k.hookLoaded ∨ k.loaded then s.returnStopped c .fault
  else if s.standsParked c then s.restCrane c .parked
  else s.becomeIdle c

/-- R136: STOPPED with cause FAULT. -/
def Crane.faultStopped (k : Crane) : Bool := k.state == .stopped && k.stopCause == some .fault

/-- R136: the load that the hook should hold is missing. -/
def State.lostLoad (s : State) (c : CraneId) : Bool :=
  !(s.crane c).hookLoaded && (s.crane c).loaded && !s.inPhase c .lowering

/-- R136: what a STATUS brings about in a crane that is not OFFLINE. -/
def State.actOnStatus (s : State) (c : CraneId) : State :=
  let k := s.crane c
  if k.drive ≠ 0 ∧ !k.faultStopped then s.stopCrane c .fault
  else if s.unknownLoad c then s.stopCrane c .fault
  else if s.lostLoad c ∧ !k.faultStopped then s.stopCrane c .fault
  else s

/-- R136, R137: STATUS. -/
def State.craneStatusReported (s : State) (c : CraneId) (position : Nat) (hook code : Byte) : State :=
  let offline := (s.crane c).state == .offline
  let s := s.takeStatus c position hook code
  if offline then s.comeBack c else s.actOnStatus c

def execCranePortStatus (c : CraneId) (position : BitVec 32) (hook code : Byte) (s : State) : Reaction :=
  ((s.craneFrameTaken c).craneStatusReported c position.toNat hook code).react

/-! ## ARRIVED (R139, R141, R143, R145, R150) -/

/-- R143, R145: a crane that stands at the place its order makes for. -/
def State.arriveForOrder (s : State) (c : CraneId) : State :=
  match s.orderInHand c with
  | none => s
  | some o =>
    match o.state with
    | .assigned => (s.modOrder o.number (fun o => { o with state := .lifting })).hoist c .hoistPick
    | .carrying => (s.modOrder o.number (fun o => { o with state := .lowering })).beginLowering c o.dest
    | _ => s

/-- R139, R141, R150: a crane at its needed position acts on its purpose. -/
def State.arriveAtGoal (s : State) (c : CraneId) (p : Purpose) : State :=
  match p with
  | .order => s.arriveForOrder c
  | .yield => s.becomeIdle c
  | .park => s.restCrane c .parked

/-- R141: a crane at a clipped target. -/
def State.arriveClipped (s : State) (c : CraneId) : State :=
  let k := s.crane c
  if k.state = .travel then
    s.updateCrane c (fun k => { k with state := .wait, waitCause := some (k.clip.getD .separationSpan) })
  else s

/-- R141: ARRIVED at a reported position. -/
def State.arrivedAt (s : State) (c : CraneId) (position : Nat) : State :=
  let s := s.reportPosition c position
  let k := s.crane c
  if (k.state = .travel ∨ k.state = .yielding) ∧ k.target = some k.position then
    match k.goal with
    | some g => if g.position = k.position then s.arriveAtGoal c g.purpose else s.arriveClipped c
    | none => s
  else s.craneStray c

def execArrived (c : CraneId) (position : BitVec 32) (s : State) : Reaction :=
  ((s.craneFrameTaken c).arrivedAt c position.toNat).react

/-! ## PICKED, SET_DOWN and other frames (R144, R145, R146) -/

/-- R144: PICKED. -/
def State.pickedBy (s : State) (c : CraneId) : State :=
  match s.orderInHand c with
  | some o =>
    if (s.crane c).state = .hoist ∧ o.state = .lifting ∧ !(s.crane c).withdrawn then s.lift c o else s.craneStray c
  | none => s.craneStray c

def execPicked (c : CraneId) (s : State) : Reaction := ((s.craneFrameTaken c).pickedBy c).react

/-- R145, R146: SET_DOWN. -/
def State.setDownBy (s : State) (c : CraneId) : State :=
  match s.orderInHand c with
  | some o =>
    if (s.crane c).state ≠ .hoist then s.craneStray c
    else
      match o.state with
      | .lowering => s.finishSetDown c o
      | .lifting => if (s.crane c).withdrawn then s.finishWithdrawal c o else s.craneStray c
      | _ => s.craneStray c
  | none => s.craneStray c

def execSetDown (c : CraneId) (s : State) : Reaction := ((s.craneFrameTaken c).setDownBy c).react

/-- R136: a frame of an unknown type or of a length that its type does not have. -/
def execCraneStrayFrame (c : CraneId) (_typ : Byte) (_body : List Byte) (s : State) : Reaction :=
  .next ((s.craneFrameTaken c).craneStray c)

/-! ## Timers; a stopped timer has no expiry -/

/-- R137: the crane becomes OFFLINE, and the expiry is counted; a stray frame taken in OFFLINE has started the timer there too
(notes/assumptions/21). -/
def State.craneLost (s : State) (c : CraneId) : State :=
  (s.suspendOrder c).updateCrane c (fun k =>
    { k with
      state := .offline
      waitCause := none
      stopCause := none
      hoistTimer := none
      silenceTimer := none
      offlineEntries := bump k.offlineEntries })

/-- R137: 500 ms without a valid crane frame. -/
def execCraneSilenceTimeout (c : CraneId) (s : State) : Reaction :=
  if (s.crane c).silenceTimer = none then .next s else (s.craneLost c).react

/-- R147: the hoist timer expires. -/
def execHoistTimerExpiry (c : CraneId) (s : State) : Reaction :=
  if (s.crane c).hoistTimer = none then .next s else (s.stopCrane c .hoistTimeout).react

/-! ## Promotion (R125) -/

/-- R125: the queued time of an order of the normal list has reached the aging time, and with it that of every older one of the
list: they are promoted oldest first (notes/assumptions/16). -/
def State.promotionDue (s : State) (n : Nat) : State :=
  if s.settings.agingTime ≠ 0 ∧ s.dispatcher.normal.contains n then
    let due := s.dispatcher.normalUpTo n
    due.foldl State.promote (due.foldl State.ageOrder s)
  else s

def execOrderPromotion (n : Nat) (s : State) : Reaction := (s.promotionDue n).react

end Sys2Proof.Machine
end

