-- ==== Sys2Proof/Machine/HallFamily.lean ====
section
/-! DEFINITION. The requests and events of the hall state controller and the field lines (chapter 9). -/

namespace Sys2Proof.Machine

/-! ## Hall requests -/

/-- R165: HALL_STATUS. -/
def execHallStatus (tag : Byte) (body : List Byte) (s : State) : Reaction :=
  .next (s.serve 0x11 tag body.isEmpty (fun s => .ok s s.hallStatusBytes))

/-- R162: HALL_RUN. -/
def hallRunRequest (s : State) : Answer :=
  if s.hall.state ≠ .pause then .refuse s .wrongState
  else if s.hallStopActive then .refuse s .stopLineActive
  else .ok (s.enterHall (if s.hall.purged then .run else .purge) .host) []

def execHallRun (tag : Byte) (body : List Byte) (s : State) : Reaction :=
  .next (s.serve 0x12 tag body.isEmpty hallRunRequest)

/-- R160: HALL_PAUSE. -/
def hallPauseRequest (s : State) : Answer :=
  if s.hallWorks then .ok (s.enterHall .pause .host) [] else .refuse s .wrongState

def execHallPause (tag : Byte) (body : List Byte) (s : State) : Reaction :=
  .next (s.serve 0x13 tag body.isEmpty hallPauseRequest)

/-- R163: HALL_PARK. -/
def hallParkRequest (s : State) : Answer :=
  if s.hall.state = .park then .refuse s .wrongState
  else if s.quiet then .ok (s.enterHall .park .host) []
  else .refuse s .notQuiet

def execHallPark (tag : Byte) (body : List Byte) (s : State) : Reaction :=
  .next (s.serve 0x14 tag body.isEmpty hallParkRequest)

/-- R159: HALL_WAKE. -/
def hallWakeRequest (s : State) : Answer :=
  if s.hall.state ≠ .park then .refuse s .wrongState
  else if s.hallStopActive then .refuse s .stopLineActive
  else .ok (s.enterHall .purge .host) []

def execHallWake (tag : Byte) (body : List Byte) (s : State) : Reaction :=
  .next (s.serve 0x15 tag body.isEmpty hallWakeRequest)

/-- R166: HALL_RESET. -/
def hallResetRequest (s : State) : Answer :=
  if s.quiet && s.dispatcher.orders.isEmpty then .ok s.hallReset [] else .refuse s .notQuiet

def execHallReset (tag : Byte) (body : List Byte) (s : State) : Reaction :=
  .next (s.serve 0x16 tag body.isEmpty hallResetRequest)

/-- R164: a timer of a period in seconds, stopped where it is 0. -/
def periodTimer (seconds : Nat) : Option Nat := if seconds = 0 then none else some (seconds * 1000)

/-- R164: the three values replaced, with the silence and summary timers. -/
def State.setHallTimes (s : State) (t : HallTimes) : State :=
  (s.modHall (fun h =>
    { h with
      purgeTime := t.purge
      silenceTime := t.silence
      summaryPeriod := t.summary
      summaryTimer := if t.summary = h.summaryPeriod then h.summaryTimer else periodTimer t.summary })).modLink (fun l =>
        { l with silenceTimer := periodTimer t.silence })

/-- R164: HALL_SET. -/
def hallSetRequest (body : List Byte) (s : State) : Answer :=
  Answer.fields s (hallTimes? body) (fun t => .ok (s.setHallTimes t) [])

def execHallSet (tag : Byte) (body : List Byte) (s : State) : Reaction :=
  .next (s.serve 0x17 tag (body.length == 3) (hallSetRequest body))

/-! ## Line requests -/

/-- R156: LINE_SET. -/
def lineSetRequest (body : List Byte) (s : State) : Answer :=
  Answer.fields s (lineSetting? body) (fun l =>
    .ok (s.configureLine l.line l.function l.activeLevel l.filterTime l.edge) [])

def execLineSet (tag : Byte) (body : List Byte) (s : State) : Reaction :=
  .next (s.serve 0x18 tag (body.length == 7) (lineSetRequest body))

/-- R157: LINE_STATUS. -/
def lineStatusRequest (body : List Byte) (s : State) : Answer :=
  Answer.fields s (numbered 16 (num body 0 1)) (fun i => .ok s (s.lineStatusBytes i))

def execLineStatus (tag : Byte) (body : List Byte) (s : State) : Reaction :=
  .next (s.serve 0x19 tag (body.length == 1) (lineStatusRequest body))

/-- R157: the latches of the named lines cleared. -/
def State.clearLatches (s : State) (lines : List LineIx) : State :=
  lines.foldl (fun s i => s.modLine i (fun l => { l with latch := false })) s

/-- R157: LINE_CLEAR. -/
def lineClearRequest (body : List Byte) (s : State) : Answer :=
  Answer.fields s (set? 16 (num body 0 2)) (fun lines => .ok (s.clearLatches lines) [])

def execLineClear (tag : Byte) (body : List Byte) (s : State) : Reaction :=
  .next (s.serve 0x1A tag (body.length == 2) (lineClearRequest body))

/-! ## Events -/

/-- R159: the purge timer expires; a stopped timer has no expiry. -/
def execPurgeTimerExpiry (s : State) : Reaction :=
  if s.hall.purgeTimer = none then .next s else (s.enterHall .run .purgeDone).react

/-- R153: an input level changes. -/
def execLineInputChange (i : LineIx) (level : Level) (s : State) : Reaction := (s.inputChange i level).react

/-- R153: a filter timer expires; a stopped timer has no expiry. -/
def execLineFilterExpiry (i : LineIx) (s : State) : Reaction :=
  if (s.line i).filterTimer = none then .next s else (s.takeChange i).react

end Sys2Proof.Machine
end

