-- ==== Sys2Proof/Machine/LinkFamily.lean ====
section
/-! DEFINITION. Resets, and the requests and events of the host link (chapter 10). -/

namespace Sys2Proof.Machine

/-! ## Resets -/

/-- R172, R176: power-on; the input pins and what has been sent stay. -/
def execPowerOn (straps : LinkRate) (s : State) : Reaction :=
  .next { State.fresh .powerOn straps (s.lines.map (·.input)) with sent := s.sent, pending := s.pending }

/-- R172, R176: the reset pin. -/
def execResetPin (straps : LinkRate) (s : State) : Reaction :=
  .next { State.fresh .resetPin straps (s.lines.map (·.input)) with sent := s.sent, pending := s.pending }

/-! ## Requests -/

/-- R176: IDENTIFY. -/
def execIdentify (tag : Byte) (body : List Byte) (s : State) : Reaction :=
  .next (s.serve 0x01 tag body.isEmpty (fun s => .ok s s.link.identityBytes))

/-- R176: LINK_STATUS. -/
def execLinkStatus (tag : Byte) (body : List Byte) (s : State) : Reaction :=
  .next (s.serve 0x02 tag body.isEmpty (fun s => .ok s s.link.statusBytes))

/-- R173: the notice mask replaced whole. -/
def Link.withMask (l : Link) (master : Bool) (classes : List (Fin 18)) : Link :=
  { l with
    master
    notices := Vector.ofFn (fun i => { (l.notices.get i) with enabled := classes.contains i }) }

/-- R173: NOTICE_MASK. -/
def noticeMaskRequest (body : List Byte) (s : State) : Answer :=
  Answer.fields s (noticeMask? body) (fun m => .ok (s.modLink (fun l => l.withMask m.1 m.2)) [])

def execNoticeMask (tag : Byte) (body : List Byte) (s : State) : Reaction :=
  .next (s.serve 0x03 tag (body.length == 4) (noticeMaskRequest body))

/-- R172: the named classes cleared. -/
def State.clearNotices (s : State) (classes : List (Fin 18)) : State :=
  (allNotices.filter (fun k => classes.contains k.index)).foldl State.clearNotice s

/-- R172: NOTICE_CLEAR. -/
def noticeClearRequest (body : List Byte) (s : State) : Answer :=
  Answer.fields s (set? 18 (num body 0 3)) (fun classes => .ok (s.clearNotices classes) [])

def execNoticeClear (tag : Byte) (body : List Byte) (s : State) : Reaction :=
  .next (s.serve 0x04 tag (body.length == 3) (noticeClearRequest body))

/-- R169, R170: a request of an unknown type. -/
def execUnknownTypeRequest (typ tag : Byte) (_body : List Byte) (s : State) : Reaction :=
  .next (s.serveUnknown typ tag)

/-! ## Link events -/

/-- R168: a frame with a bad length or a bad CRC. -/
def execInvalidFrame (p : Port) (why : FrameError) (s : State) : Reaction := .next (s.abandon p why)

/-- R168: a gap of 5 ms inside a frame. -/
def execFrameGapTimeout (p : Port) (s : State) : Reaction := .next (s.gapTimeout p)

/-- R174: the transmitter begins a reply. -/
def execSendReply (s : State) : Reaction := .next s.sendReply

/-- R174: the transmitter begins a notice. -/
def execSendNotice (s : State) : Reaction := .next s.sendNotice

/-- R174: the transmitter's frame ends. -/
def execTransmitFrameEnd (s : State) : Reaction := .next (s.modLink (fun l => { l with sending := none }))

/-- R160: the silence timer expires; a stopped timer has no expiry. -/
def execLinkSilence (s : State) : Reaction := if s.link.silenceTimer = none then .next s else s.hostSilent.react

/-- R164: the summary timer expires and starts again. -/
def execSummaryTimerExpiry (s : State) : Reaction :=
  if s.hall.summaryTimer = none then .next s
  else .next ((s.modHall (fun h => { h with summaryTimer := some (h.summaryPeriod * 1000) })).mark .summary)

end Sys2Proof.Machine
end

