-- ==== Sys2Proof/Machine/MarkFamily.lean ====
section
/-! DEFINITION. The requests of the mark composer (chapter 5). -/

namespace Sys2Proof.Machine

/-- R82: an entry in use holds the code. -/
def State.codeInUse (s : State) (code : Code) : Bool := allHeats.any (fun h => s.heatCode h == some code)

/-- R82: the entry as it is opened. -/
def HeatOpening.entry (o : HeatOpening) : Heat :=
  { state := .active, code := o.code, grade := o.grade, first := o.first, next := o.first, made := 0, failed := 0, refs := 0 }

/-- A heat entry replaced. -/
def State.setHeat (s : State) (h : HeatIx) (e : Option Heat) : State :=
  s.modComposer (fun c => { c with heats := put c.heats h e })

/-- R82: HEAT_OPEN. -/
def heatOpenRequest (body : List Byte) (s : State) : Answer :=
  Answer.fields s (heatOpening? body) (fun o =>
    if s.codeInUse o.code then .refuse s .badField
    else
      match s.lowestFreeHeat with
      | none => .refuse s .tableFull
      | some h => .ok (s.setHeat h (some o.entry)) (u8 h.val))

def execHeatOpen (tag : Byte) (body : List Byte) (s : State) : Reaction :=
  .next (s.serve 0x51 tag (body.length == 13) (heatOpenRequest body))

/-- A heat index at the head of a body. -/
def heat? (body : List Byte) : Option HeatIx := indexed 32 (num body 0 1)

/-- R83: HEAT_CLOSE. -/
def heatCloseRequest (body : List Byte) (s : State) : Answer :=
  Answer.fields s (heat? body) (fun h =>
    match s.heat h with
    | none => .refuse s .unknownHeat
    | some e => if e.state = .active then .ok (s.modHeat h (fun e => { e with state := .closed })) [] else .refuse s .wrongState)

def execHeatClose (tag : Byte) (body : List Byte) (s : State) : Reaction :=
  .next (s.serve 0x52 tag (body.length == 1) (heatCloseRequest body))

/-- R83: HEAT_REOPEN. -/
def heatReopenRequest (body : List Byte) (s : State) : Answer :=
  Answer.fields s (heat? body) (fun h =>
    match s.heat h with
    | none => .refuse s .unknownHeat
    | some e => if e.state = .closed then .ok (s.modHeat h (fun e => { e with state := .active })) [] else .refuse s .wrongState)

def execHeatReopen (tag : Byte) (body : List Byte) (s : State) : Reaction :=
  .next (s.serve 0x53 tag (body.length == 1) (heatReopenRequest body))

/-- R84: HEAT_DROP. -/
def heatDropRequest (body : List Byte) (s : State) : Answer :=
  Answer.fields s (heat? body) (fun h =>
    match s.heat h with
    | none => .refuse s .unknownHeat
    | some e => if e.refs = 0 then .ok (s.setHeat h none) [] else .refuse s .heatInUse)

def execHeatDrop (tag : Byte) (body : List Byte) (s : State) : Reaction :=
  .next (s.serve 0x54 tag (body.length == 1) (heatDropRequest body))

/-- R85: HEAT_STATUS. -/
def heatStatusRequest (body : List Byte) (s : State) : Answer :=
  Answer.fields s (heat? body) (fun h => .ok s (s.heatStatusBytes h))

def execHeatStatus (tag : Byte) (body : List Byte) (s : State) : Reaction :=
  .next (s.serve 0x55 tag (body.length == 1) (heatStatusRequest body))

/-- R93: TRACE_READ. -/
def traceReadRequest (body : List Byte) (s : State) : Answer :=
  Answer.fields s (traceRange? body) (fun r => .ok s (s.composer.traceReadBytes r.1 r.2))

def execTraceRead (tag : Byte) (body : List Byte) (s : State) : Reaction :=
  .next (s.serve 0x56 tag (body.length == 5) (traceReadRequest body))

end Sys2Proof.Machine
end

