-- ==== Sys2Proof/Machine/RemnantFamily.lean ====
section
/-! DEFINITION. The requests of the remnant table and its aging timer (chapter 6). -/

namespace Sys2Proof.Machine

/-- A record index at the head of a body. -/
def remnant? (body : List Byte) : Option RemnantIx := indexed 96 (num body 0 1)

/-- R100: the record of a piece entered at a rack. -/
def RemnantEntry.record (e : RemnantEntry) (t : RemnantTable) : Remnant :=
  { state := .stocked, heat := e.heat, grade := e.grade, thickness := e.thickness, rawWidth := e.width, rawLength := e.length,
    usableWidth := (usable e.width t.margin).toNat, usableLength := (usable e.length t.margin).toNat, slot := some e.slot,
    bay := none, crane := none, age := e.age, tag := none }

/-- R100: the tests after the range test. -/
def State.remnantAddTest (s : State) (e : RemnantEntry) : ResultCode :=
  match s.heat e.heat with
  | none => .unknownHeat
  | some h =>
    if e.grade ≠ h.grade then .badField
    else if s.remnants.tooSmall e.width e.length then .tooSmall
    else if s.slotFree e.slot then .ok
    else .slotOccupied

/-- R100: REMNANT_ADD. -/
def remnantAddRequest (body : List Byte) (s : State) : Answer :=
  Answer.fields s (remnantEntry? body) (fun e =>
    Answer.test s (s.remnantAddTest e)
      (match s.lowestVacant with
        | none => .refuse s .tableFull
        | some i =>
          .ok (((s.setRemnant i (some (e.record s.remnants))).addRef e.heat).expiryTest i) (u8 i.val)))

def execRemnantAdd (tag : Byte) (body : List Byte) (s : State) : Reaction :=
  .next (s.serve 0x61 tag (body.length == 10) (remnantAddRequest body))

/-- R101: the piece lies within the plate in either orientation. -/
def Plate.holds (p : Plate) (width length : Nat) : Bool :=
  (decide (width ≤ p.width) && decide (length ≤ p.length)) || (decide (width ≤ p.length) && decide (length ≤ p.width))

/-- R101: the new record of a bay's piece. -/
def Plate.remnantRecord (p : Plate) (t : RemnantTable) (b : BayIx) (width length : Nat) : Remnant :=
  { state := .inBay, heat := p.heat, grade := p.grade, thickness := p.thickness, rawWidth := width, rawLength := length,
    usableWidth := (usable width t.margin).toNat, usableLength := (usable length t.margin).toNat, slot := none,
    bay := some b, crane := none, age := 0, tag := none }

/-- R101, R102: the remnant index of a bay's plate record is set or removed. -/
def State.nameRemnant (s : State) (b : BayIx) (i : Option RemnantIx) : State :=
  (s.modBay b (fun k => { k with plate := k.plate.map (fun p => { p with remnant := i }) })).bayChanged b

/-- R101: a CUT bay's plate, width and length not 0. -/
def State.enterFromBay (s : State) (b : BayIx) (p : Plate) (width length : Nat) : Answer :=
  if !p.holds width length then .refuse s .badField
  else if s.remnants.tooSmall width length then .refuse s .tooSmall
  else
    match p.remnant with
    | some i =>
      .ok (s.modRemnant i (fun r => { (r.withDimensions s.remnants width length) with age := 0 })) (u8 i.val)
    | none =>
      match s.lowestVacant with
      | none => .refuse s .tableFull
      | some i =>
        .ok (((s.setRemnant i (some (p.remnantRecord s.remnants b width length))).addRef p.heat).nameRemnant b (some i))
          (u8 i.val)

/-- R102: width and length 0. -/
def State.consumeFromBay (s : State) (b : BayIx) (p : Plate) : Answer :=
  match p.remnant with
  | none => .refuse s .remnantState
  | some i => .ok ((s.vacate i).nameRemnant b none) (u8 i.val)

/-- R101, R102: REMNANT_FROM_BAY. -/
def remnantFromBayRequest (body : List Byte) (s : State) : Answer :=
  Answer.fields s (fromBay? body) (fun r =>
    match (s.bay r.1).state, (s.bay r.1).plate with
    | .cut, some p =>
      if r.2.1 = 0 ∧ r.2.2 = 0 then s.consumeFromBay r.1 p else s.enterFromBay r.1 p r.2.1 r.2.2
    | _, _ => .refuse s .wrongState)

def execRemnantFromBay (tag : Byte) (body : List Byte) (s : State) : Reaction :=
  .next (s.serve 0x62 tag (body.length == 5) (remnantFromBayRequest body))

/-- The state of a record, none when it is VACANT. -/
def State.remnantState (s : State) (i : RemnantIx) : Option RemnantState := (s.remnant i).map (·.state)

/-- R104: REMNANT_RESERVE. -/
def remnantReserveRequest (body : List Byte) (s : State) : Answer :=
  Answer.fields s (reservation? body) (fun r =>
    if s.remnantState r.1 = some .stocked then
      .ok (s.modRemnant r.1 (fun k => { k with state := .reserved, tag := some r.2 })) []
    else .refuse s .remnantState)

def execRemnantReserve (tag : Byte) (body : List Byte) (s : State) : Reaction :=
  .next (s.serve 0x63 tag (body.length == 3) (remnantReserveRequest body))

/-- R104: REMNANT_UNRESERVE. -/
def remnantUnreserveRequest (body : List Byte) (s : State) : Answer :=
  Answer.fields s (remnant? body) (fun i =>
    if s.remnantState i = some .reserved then
      .ok ((s.modRemnant i (fun k => { k with state := .stocked, tag := none })).expiryTest i) []
    else .refuse s .remnantState)

def execRemnantUnreserve (tag : Byte) (body : List Byte) (s : State) : Reaction :=
  .next (s.serve 0x64 tag (body.length == 1) (remnantUnreserveRequest body))

/-- R110: the two states that REMNANT_RENEW and REMNANT_DROP take. -/
def State.atRest (s : State) (i : RemnantIx) : Bool :=
  s.remnantState i == some .stocked || s.remnantState i == some .expired

/-- R110: REMNANT_RENEW. -/
def remnantRenewRequest (body : List Byte) (s : State) : Answer :=
  Answer.fields s (remnant? body) (fun i =>
    if s.atRest i then .ok (s.modRemnant i (fun k => { k with state := .stocked, age := 0 })) []
    else .refuse s .remnantState)

def execRemnantRenew (tag : Byte) (body : List Byte) (s : State) : Reaction :=
  .next (s.serve 0x65 tag (body.length == 1) (remnantRenewRequest body))

/-- R113: REMNANT_READ. -/
def remnantReadRequest (body : List Byte) (s : State) : Answer :=
  Answer.fields s (remnant? body) (fun i => .ok s (s.remnantReadBytes i))

def execRemnantRead (tag : Byte) (body : List Byte) (s : State) : Reaction :=
  .next (s.serve 0x66 tag (body.length == 1) (remnantReadRequest body))

/-- R112: REMNANT_FIND. -/
def remnantFindRequest (body : List Byte) (s : State) : Answer :=
  Answer.fields s (remnantSearch? body) (fun q =>
    .ok s (remnantFindBytes (s.candidates q.grade q.thickness q.width q.length q.tag)))

def execRemnantFind (tag : Byte) (body : List Byte) (s : State) : Reaction :=
  .next (s.serve 0x67 tag (body.length == 8) (remnantFindRequest body))

/-- R111: the four values replaced, the aging timer where its period changed, and the expiry test on every STOCKED record. -/
def State.setRemnantValues (s : State) (v : RemnantSettings) : State :=
  (s.modRemnants (fun t =>
    { t with
      margin := v.margin
      minDimension := v.minDimension
      agingPeriod := v.agingPeriod
      expiryCount := v.expiryCount
      agingTimer := if v.agingPeriod = t.agingPeriod then t.agingTimer else agingTimerOf v.agingPeriod })).expiryTests

/-- R111: REMNANT_SET. -/
def remnantSetRequest (body : List Byte) (s : State) : Answer :=
  Answer.fields s (remnantSettings? body) (fun v => .ok (s.setRemnantValues v) [])

def execRemnantSet (tag : Byte) (body : List Byte) (s : State) : Reaction :=
  .next (s.serve 0x68 tag (body.length == 6) (remnantSetRequest body))

/-- R110: REMNANT_DROP. -/
def remnantDropRequest (body : List Byte) (s : State) : Answer :=
  Answer.fields s (remnant? body) (fun i => if s.atRest i then .ok (s.vacate i) [] else .refuse s .remnantState)

def execRemnantDrop (tag : Byte) (body : List Byte) (s : State) : Reaction :=
  .next (s.serve 0x69 tag (body.length == 1) (remnantDropRequest body))

/-- R108: the aging timer expires; a stopped timer has no expiry. -/
def execAgingTimerExpiry (s : State) : Reaction :=
  if s.remnants.agingTimer = none then .next s
  else .next (s.ageStocked.expiryTests.modRemnants (fun t => { t with agingTimer := agingTimerOf t.agingPeriod }))

end Sys2Proof.Machine
end

