-- ==== Sys2Proof/Machine/ReceiveFamily.lean ====
section
/-! DEFINITION. RECEIVE_BYTE (R168): a byte at a port's receiver. A byte that completes a valid frame runs the row of
that frame, by the frame's own meaning. -/

namespace Sys2Proof.Machine

/-- R168: a valid frame is handed on by its type: the meaning of the row it is. Commands that are no frame are not reached. -/
def runFrame (i : Instr) (s : State) : Reaction :=
  match i with
  | .identify tag body => execIdentify tag body s
  | .linkStatus tag body => execLinkStatus tag body s
  | .noticeMask tag body => execNoticeMask tag body s
  | .noticeClear tag body => execNoticeClear tag body s
  | .hallStatus tag body => execHallStatus tag body s
  | .hallRun tag body => execHallRun tag body s
  | .hallPause tag body => execHallPause tag body s
  | .hallPark tag body => execHallPark tag body s
  | .hallWake tag body => execHallWake tag body s
  | .hallReset tag body => execHallReset tag body s
  | .hallSet tag body => execHallSet tag body s
  | .lineSet tag body => execLineSet tag body s
  | .lineStatus tag body => execLineStatus tag body s
  | .lineClear tag body => execLineClear tag body s
  | .bayStatus tag body => execBayStatus tag body s
  | .bayDeclare tag body => execBayDeclare tag body s
  | .bayAccept tag body => execBayAccept tag body s
  | .bayClear tag body => execBayClear tag body s
  | .readerSet tag body => execReaderSet tag body s
  | .placesSet tag body => execPlacesSet tag body s
  | .steps tag body => execSteps tag body s
  | .start tag body => execStart tag body s
  | .hold tag body => execHold tag body s
  | .resume tag body => execResume tag body s
  | .stop tag body => execStop tag body s
  | .flush tag body => execFlush tag body s
  | .channelStatus tag body => execChannelStatus tag body s
  | .arcSet tag body => execArcSet tag body s
  | .arcStatus tag body => execArcStatus tag body s
  | .budgetSet tag body => execBudgetSet tag body s
  | .budgetStatus tag body => execBudgetStatus tag body s
  | .heatOpen tag body => execHeatOpen tag body s
  | .heatClose tag body => execHeatClose tag body s
  | .heatReopen tag body => execHeatReopen tag body s
  | .heatDrop tag body => execHeatDrop tag body s
  | .heatStatus tag body => execHeatStatus tag body s
  | .traceRead tag body => execTraceRead tag body s
  | .remnantAdd tag body => execRemnantAdd tag body s
  | .remnantFromBay tag body => execRemnantFromBay tag body s
  | .remnantReserve tag body => execRemnantReserve tag body s
  | .remnantUnreserve tag body => execRemnantUnreserve tag body s
  | .remnantRenew tag body => execRemnantRenew tag body s
  | .remnantRead tag body => execRemnantRead tag body s
  | .remnantFind tag body => execRemnantFind tag body s
  | .remnantSet tag body => execRemnantSet tag body s
  | .remnantDrop tag body => execRemnantDrop tag body s
  | .orderSubmit tag body => execOrderSubmit tag body s
  | .orderCancel tag body => execOrderCancel tag body s
  | .orderRedirect tag body => execOrderRedirect tag body s
  | .orderStatus tag body => execOrderStatus tag body s
  | .craneStatus tag body => execCraneStatus tag body s
  | .craneResume tag body => execCraneResume tag body s
  | .craneClear tag body => execCraneClear tag body s
  | .craneSet tag body => execCraneSet tag body s
  | .unknownTypeRequest typ tag body => execUnknownTypeRequest typ tag body s
  | .gantryDone g seq => execGantryDone g seq s
  | .gantryHalted g x y => execGantryHalted g x y s
  | .gantrySample g voltage => execGantrySample g voltage s
  | .gantryRead g bay chars => execGantryRead g bay chars s
  | .gantryStatus g code => execGantryStatus g code s
  | .gantryStrayFrame g typ body => execGantryStrayFrame g typ body s
  | .cranePortStatus c position hook code => execCranePortStatus c position hook code s
  | .arrived c position => execArrived c position s
  | .picked c => execPicked c s
  | .setDown c => execSetDown c s
  | .craneStrayFrame c typ body => execCraneStrayFrame c typ body s
  | .powerOn _ => .next s
  | .resetPin _ => .next s
  | .invalidFrame _ _ => .next s
  | .frameGapTimeout _ => .next s
  | .sendReply => .next s
  | .sendNotice => .next s
  | .transmitFrameEnd => .next s
  | .linkSilence => .next s
  | .summaryTimerExpiry => .next s
  | .purgeTimerExpiry => .next s
  | .lineInputChange _ _ => .next s
  | .lineFilterExpiry _ => .next s
  | .gantrySilenceTimeout _ => .next s
  | .haltTimerExpiry _ => .next s
  | .dwellTimerExpiry _ => .next s
  | .checkTimerExpiry _ => .next s
  | .strikeTimerExpiry _ => .next s
  | .craneSilenceTimeout _ => .next s
  | .hoistTimerExpiry _ => .next s
  | .orderPromotion _ => .next s
  | .agingTimerExpiry => .next s
  | .receiveByte _ _ => .next s

/-- R168: a byte arrives at a port. -/
def execReceiveByte (p : Port) (b : Byte) (s : State) : Reaction :=
  let (r, heard) := (s.receivers.get p).take b
  let s := s.setReceiver p r
  match heard with
  | .valid f => runFrame (frameCommand p f) s
  | _ => .next (s.heard p heard)

end Sys2Proof.Machine
end

