-- ==== Sys2Proof/Machine/Dispatch.lean ====
section
/-! DEFINITION. Which meaning each command of the opcode table has. -/

namespace Sys2Proof.Machine

def exec (i : Instr) (s : State) : Host.Outcome State Fault Refusal :=
  match i with
  | .powerOn straps => Sys2Proof.Machine.execPowerOn straps s
  | .resetPin straps => Sys2Proof.Machine.execResetPin straps s
  | .identify tag body => Sys2Proof.Machine.execIdentify tag body s
  | .linkStatus tag body => Sys2Proof.Machine.execLinkStatus tag body s
  | .noticeMask tag body => Sys2Proof.Machine.execNoticeMask tag body s
  | .noticeClear tag body => Sys2Proof.Machine.execNoticeClear tag body s
  | .hallStatus tag body => Sys2Proof.Machine.execHallStatus tag body s
  | .hallRun tag body => Sys2Proof.Machine.execHallRun tag body s
  | .hallPause tag body => Sys2Proof.Machine.execHallPause tag body s
  | .hallPark tag body => Sys2Proof.Machine.execHallPark tag body s
  | .hallWake tag body => Sys2Proof.Machine.execHallWake tag body s
  | .hallReset tag body => Sys2Proof.Machine.execHallReset tag body s
  | .hallSet tag body => Sys2Proof.Machine.execHallSet tag body s
  | .lineSet tag body => Sys2Proof.Machine.execLineSet tag body s
  | .lineStatus tag body => Sys2Proof.Machine.execLineStatus tag body s
  | .lineClear tag body => Sys2Proof.Machine.execLineClear tag body s
  | .bayStatus tag body => Sys2Proof.Machine.execBayStatus tag body s
  | .bayDeclare tag body => Sys2Proof.Machine.execBayDeclare tag body s
  | .bayAccept tag body => Sys2Proof.Machine.execBayAccept tag body s
  | .bayClear tag body => Sys2Proof.Machine.execBayClear tag body s
  | .readerSet tag body => Sys2Proof.Machine.execReaderSet tag body s
  | .placesSet tag body => Sys2Proof.Machine.execPlacesSet tag body s
  | .steps tag body => Sys2Proof.Machine.execSteps tag body s
  | .start tag body => Sys2Proof.Machine.execStart tag body s
  | .hold tag body => Sys2Proof.Machine.execHold tag body s
  | .resume tag body => Sys2Proof.Machine.execResume tag body s
  | .stop tag body => Sys2Proof.Machine.execStop tag body s
  | .flush tag body => Sys2Proof.Machine.execFlush tag body s
  | .channelStatus tag body => Sys2Proof.Machine.execChannelStatus tag body s
  | .arcSet tag body => Sys2Proof.Machine.execArcSet tag body s
  | .arcStatus tag body => Sys2Proof.Machine.execArcStatus tag body s
  | .budgetSet tag body => Sys2Proof.Machine.execBudgetSet tag body s
  | .budgetStatus tag body => Sys2Proof.Machine.execBudgetStatus tag body s
  | .heatOpen tag body => Sys2Proof.Machine.execHeatOpen tag body s
  | .heatClose tag body => Sys2Proof.Machine.execHeatClose tag body s
  | .heatReopen tag body => Sys2Proof.Machine.execHeatReopen tag body s
  | .heatDrop tag body => Sys2Proof.Machine.execHeatDrop tag body s
  | .heatStatus tag body => Sys2Proof.Machine.execHeatStatus tag body s
  | .traceRead tag body => Sys2Proof.Machine.execTraceRead tag body s
  | .remnantAdd tag body => Sys2Proof.Machine.execRemnantAdd tag body s
  | .remnantFromBay tag body => Sys2Proof.Machine.execRemnantFromBay tag body s
  | .remnantReserve tag body => Sys2Proof.Machine.execRemnantReserve tag body s
  | .remnantUnreserve tag body => Sys2Proof.Machine.execRemnantUnreserve tag body s
  | .remnantRenew tag body => Sys2Proof.Machine.execRemnantRenew tag body s
  | .remnantRead tag body => Sys2Proof.Machine.execRemnantRead tag body s
  | .remnantFind tag body => Sys2Proof.Machine.execRemnantFind tag body s
  | .remnantSet tag body => Sys2Proof.Machine.execRemnantSet tag body s
  | .remnantDrop tag body => Sys2Proof.Machine.execRemnantDrop tag body s
  | .orderSubmit tag body => Sys2Proof.Machine.execOrderSubmit tag body s
  | .orderCancel tag body => Sys2Proof.Machine.execOrderCancel tag body s
  | .orderRedirect tag body => Sys2Proof.Machine.execOrderRedirect tag body s
  | .orderStatus tag body => Sys2Proof.Machine.execOrderStatus tag body s
  | .craneStatus tag body => Sys2Proof.Machine.execCraneStatus tag body s
  | .craneResume tag body => Sys2Proof.Machine.execCraneResume tag body s
  | .craneClear tag body => Sys2Proof.Machine.execCraneClear tag body s
  | .craneSet tag body => Sys2Proof.Machine.execCraneSet tag body s
  | .unknownTypeRequest typ tag body => Sys2Proof.Machine.execUnknownTypeRequest typ tag body s
  | .invalidFrame port why => Sys2Proof.Machine.execInvalidFrame port why s
  | .frameGapTimeout port => Sys2Proof.Machine.execFrameGapTimeout port s
  | .sendReply => Sys2Proof.Machine.execSendReply s
  | .sendNotice => Sys2Proof.Machine.execSendNotice s
  | .transmitFrameEnd => Sys2Proof.Machine.execTransmitFrameEnd s
  | .linkSilence => Sys2Proof.Machine.execLinkSilence s
  | .summaryTimerExpiry => Sys2Proof.Machine.execSummaryTimerExpiry s
  | .purgeTimerExpiry => Sys2Proof.Machine.execPurgeTimerExpiry s
  | .lineInputChange line level => Sys2Proof.Machine.execLineInputChange line level s
  | .lineFilterExpiry line => Sys2Proof.Machine.execLineFilterExpiry line s
  | .gantryDone g seq => Sys2Proof.Machine.execGantryDone g seq s
  | .gantryHalted g x y => Sys2Proof.Machine.execGantryHalted g x y s
  | .gantrySample g voltage => Sys2Proof.Machine.execGantrySample g voltage s
  | .gantryRead g bay chars => Sys2Proof.Machine.execGantryRead g bay chars s
  | .gantryStatus g code => Sys2Proof.Machine.execGantryStatus g code s
  | .gantryStrayFrame g typ body => Sys2Proof.Machine.execGantryStrayFrame g typ body s
  | .gantrySilenceTimeout g => Sys2Proof.Machine.execGantrySilenceTimeout g s
  | .haltTimerExpiry g => Sys2Proof.Machine.execHaltTimerExpiry g s
  | .dwellTimerExpiry g => Sys2Proof.Machine.execDwellTimerExpiry g s
  | .checkTimerExpiry g => Sys2Proof.Machine.execCheckTimerExpiry g s
  | .strikeTimerExpiry g => Sys2Proof.Machine.execStrikeTimerExpiry g s
  | .cranePortStatus c position hook code => Sys2Proof.Machine.execCranePortStatus c position hook code s
  | .arrived c position => Sys2Proof.Machine.execArrived c position s
  | .picked c => Sys2Proof.Machine.execPicked c s
  | .setDown c => Sys2Proof.Machine.execSetDown c s
  | .craneStrayFrame c typ body => Sys2Proof.Machine.execCraneStrayFrame c typ body s
  | .craneSilenceTimeout c => Sys2Proof.Machine.execCraneSilenceTimeout c s
  | .hoistTimerExpiry c => Sys2Proof.Machine.execHoistTimerExpiry c s
  | .orderPromotion number => Sys2Proof.Machine.execOrderPromotion number s
  | .agingTimerExpiry => Sys2Proof.Machine.execAgingTimerExpiry s
  | .receiveByte port byte => Sys2Proof.Machine.execReceiveByte port byte s

end Sys2Proof.Machine
end

