-- ==== Sys2Proof/Safety.lean ====
section
/-! DEFINITION. What the manual promises of every state: the invariants that statements speak of, and what a safe run is. -/

namespace Sys2Proof.Machine

/-- R64: the sum of the four channel bookings. -/
def Budget.booked (b : Budget) : Nat := (b.bookings.toList.map (·.amount)).sum

/-- R64: the feeder total T equals the sum of the four channel bookings. -/
def State.BudgetBalanced (s : State) : Prop := s.budget.total = s.budget.booked

/-- R72: the gate holds the hall cause of the present hall state and no other. -/
def State.GateFollowsHall (s : State) : Prop := s.budget.causes.hall = s.hall.state.gateCause

/-- The MODEL's own: between commands no dispatch pass is owed (notes/assumptions/7). -/
def State.Settled (s : State) : Prop := s.dispatcher.passDue = false

/-- The feeder, gate and dispatcher invariant. -/
structure State.Inv (s : State) : Prop where
  balanced : s.BudgetBalanced
  gate : s.GateFollowsHall
  settled : s.Settled

/-- R24, R28, R91, R115, R116, R170: the capacities of the lists. -/
structure State.WithinCapacity (s : State) : Prop where
  buffers : ∀ g, (s.channel g).buffer.length ≤ Config.bufferSize
  windows : ∀ g, (s.channel g).window.length ≤ Config.windowSize
  trace : s.composer.trace.length ≤ Config.traceSize
  orders : s.dispatcher.orders.length ≤ Config.queueSize
  history : s.dispatcher.history.length ≤ Config.historySize
  replies : s.link.replies.length ≤ Config.replyQueueSize

/-- R81: next serial lies in first serial..100 000, and no two entries in use hold the same heat code. -/
structure State.HeatTableSound (s : State) : Prop where
  serials : ∀ h e, s.heat h = some e → e.first ≤ e.next ∧ e.next ≤ 100000
  codes : ∀ h k e f, s.heat h = some e → s.heat k = some f → e.code = f.code → h = k

/-- R116: the counter holds a number in range that no open order holds, and no two open orders share a number. -/
structure State.OrderNumbersSound (s : State) : Prop where
  room : s.dispatcher.orders.length ≤ Config.queueSize
  distinct : (s.dispatcher.orders.map (·.number)).Nodup
  next : s.dispatcher.counter ∉ s.dispatcher.orders.map (·.number)
  range : 1 ≤ s.dispatcher.counter ∧ s.dispatcher.counter ≤ 65535

/-- A state in which a request will be answered: its reply finds room in the reply queue (R169). -/
def State.HasReplyRoom (s : State) : Prop := s.link.replies.length < Config.replyQueueSize

/-- The state in which a request's rule acts: its frame has been taken (R168, R169). -/
def State.taken (s : State) : State := s.hostFrameTaken

/-- What a statement about an answered request asks of the state: room for the reply, and no dispatch pass owed. -/
structure State.Open (s : State) : Prop where
  room : s.HasReplyRoom
  settled : s.Settled

/-- R169, R170: the reply to a request. -/
def reply (typ tag : Byte) (code : ResultCode) (values : List Byte) : Frame :=
  { typ := typ + 0x80, tag, body := u8 code.code ++ values }

/-- R169: the state after a request that is answered and does nothing else: its frame taken and its reply queued. -/
def State.answered (s : State) (f : Frame) : State := s.taken.queueReply f

/-- The link and the receivers of t are those of s after a request answered by f; only notices may differ. -/
structure State.Replied (s t : State) (f : Frame) : Prop where
  link : t.link = { (s.answered f).link with notices := t.link.notices }
  receivers : t.receivers = (s.answered f).receivers

/-- R172: the notices of t are those of s after one marking of each class named, in order, and no other. -/
def State.Marked (s t : State) (ks : List NoticeClass) : Prop := t.link.notices = (ks.foldl State.mark s).link.notices

/-! ## What stays -/

/-- The parts of the state that a frame speaks of. The link is taken without its notices, the bay table without the layout, the
dispatcher without its settings and without the model's own flag passDue. -/
inductive Part where
  | link | notices | receivers | hall | lines | bays | layout | channels | monitors | budget | composer | remnants | dispatcher
  | settings | passDue | cranes | sent | pending
deriving DecidableEq, Repr

/-- Two states agree on a part. -/
def Part.same : Part → State → State → Prop
  | .link, s, t => t.link = { s.link with notices := t.link.notices }
  | .notices, s, t => t.link.notices = s.link.notices
  | .receivers, s, t => t.receivers = s.receivers
  | .hall, s, t => t.hall = s.hall
  | .lines, s, t => t.lines = s.lines
  | .bays, s, t => t.bayTable = { s.bayTable with layout := t.bayTable.layout }
  | .layout, s, t => t.bayTable.layout = s.bayTable.layout
  | .channels, s, t => t.channels = s.channels
  | .monitors, s, t => t.monitors = s.monitors
  | .budget, s, t => t.budget = s.budget
  | .composer, s, t => t.composer = s.composer
  | .remnants, s, t => t.remnants = s.remnants
  | .dispatcher, s, t =>
    t.dispatcher = { s.dispatcher with settings := t.dispatcher.settings, passDue := t.dispatcher.passDue }
  | .settings, s, t => t.dispatcher.settings = s.dispatcher.settings
  | .passDue, s, t => t.dispatcher.passDue = s.dispatcher.passDue
  | .cranes, s, t => t.cranes = s.cranes
  | .sent, s, t => t.sent = s.sent
  | .pending, s, t => t.pending = s.pending

/-- t differs from s in the parts named, if in any. -/
def State.ChangesOnly (parts : List Part) (s t : State) : Prop := ∀ p, p ∉ parts → p.same s t

/-- What every request changes: its frame is taken and its reply queued. -/
def linkParts : List Part := [.link, .receivers]

/-- What a change of an aggregate of lines can bring about beside the lines: holds, ends, stops, a hall state and a dispatch. -/
def reportFrame : List Part :=
  [.hall, .budget, .notices, .channels, .sent, .monitors, .cranes, .dispatcher, .composer, .bays]

/-- What the two cranes' targets, a dispatch pass and the notices can change. -/
def dispatchFrame : List Part := [.dispatcher, .cranes, .notices, .sent]

/-! ## Receivers -/

/-- R168: port p has abandoned a frame: its receiver is r, and the host link alone counts it. -/
structure State.Abandons (s t : State) (p : Port) (r : Receiver) (count : LinkStats → LinkStats) : Prop where
  receiver : t.receivers.get p = r
  others : ∀ q, q ≠ p → t.receivers.get q = s.receivers.get q
  counted : t.link = { s.link with stats := if p = .host then count s.link.stats else s.link.stats }
  frame : s.ChangesOnly [.link, .receivers] t

/-- R168: the receiver after a length error: the hunt resumes at the first length byte. -/
def afterBadLength (lo hi : Byte) : Receiver := if lo = 0xA5 then .frame [hi] else if hi = 0xA5 then .frame [] else .hunt

/-! ## Records that hang together -/

/-- R50, R51, R54, R58, R60: the fields of a monitor record by its arc state. -/
structure Monitor.Sound (m : Monitor) : Prop where
  /-- The strike timer runs exactly in STRIKING. -/
  timer : m.strikeTimer.isSome ↔ m.arc = .striking
  /-- Height hold is on exactly in DISTURBED. -/
  height : m.heightHold = true ↔ m.arc = .disturbed
  /-- Setpoint and strike purpose are present exactly while the arc is lit. -/
  setpoint : m.setpoint.isSome ↔ m.arc ≠ .dark
  purpose : m.purpose.isSome ↔ m.arc ≠ .dark
  /-- The sample window fills in STABLE and DISTURBED only, and the bad count is that of the window. -/
  samples : m.arc = .dark ∨ m.arc = .striking → m.samples = []
  bad : m.badCount = m.samples.count .bad

/-- Every monitor record is sound. -/
def State.MonitorsSound (s : State) : Prop := ∀ g, (s.monitor g).Sound

/-- R135: a wait cause is present exactly in WAIT and a stop cause exactly in STOPPED. -/
structure Crane.CausesSound (k : Crane) : Prop where
  wait : k.waitCause.isSome ↔ k.state = .wait
  stop : k.stopCause.isSome ↔ k.state = .stopped

/-- Both crane records carry their causes as R135 gives. -/
def State.CranesSound (s : State) : Prop := ∀ c, (s.crane c).CausesSound

/-! ## Reset (the reset columns of R1, R4, R24, R50, R61, R64, R81, R91, R96, R115, R116, R134, R135, R152, R158) -/

/-- R1, R4: the bay table after reset. -/
structure BayTable.AtReset (t : BayTable) : Prop where
  empty : ∀ b, (t.bays.get b).state = .empty ∧ (t.bays.get b).plate = none ∧ (t.bays.get b).claim = none
  reader : ∀ b, (t.bays.get b).lastDeclared = none ∧ (t.bays.get b).history = [] ∧ (t.bays.get b).comparePending = false
  outcome : ∀ b, (t.bays.get b).outcome = .none
  reads : ∀ b, (t.bays.get b).readsStored = 0 ∧ (t.bays.get b).readsDiscarded = 0 ∧ (t.bays.get b).declarations = 0
  rule : t.readerK = 4 ∧ t.readerN = 5
  counts : t.misdirected = 0 ∧ t.changed = []
  runwayEnd : t.layout.runwayEnd = 120000
  intervals : ∀ b, t.layout.bays.get b = ⟨6000 + b.val * 12500, 18000 + b.val * 12500⟩
  places : t.layout.intake = 2500 ∧ t.layout.racks = #v[108500, 111000, 113500, 116000] ∧ t.layout.offload = 118500

/-- R24, R61: a channel after reset. -/
structure Channel.AtReset (c : Channel) : Prop where
  idle : c.state = .idle ∧ c.heldCause = none ∧ c.bay = none ∧ c.path = none
  lists : c.buffer = [] ∧ c.window = [] ∧ c.frozen = false ∧ c.inProgress = .none ∧ c.nextSeq = 0
  timers : c.haltTimer = none ∧ c.dwellTimer = none ∧ c.checkTimer = none
  flags : c.reentry = false ∧ c.endConsumed = false ∧ c.pierceConsumed = false
  params : c.params = { band := 80, stableCount := 48, window := 48, lossCount := 10, strikeTimeout := 2000, strikeRetries := 2 }
  milestone : c.milestoneCode = 0 ∧ c.milestoneCount = 0 ∧ c.lastEnd = none
  gantry : c.gantryPresent = false ∧ c.gantryCode = 0
  counts : c.stepsDone = 0 ∧ c.pierces = 0 ∧ c.repierces = 0 ∧ c.starvations = 0 ∧ c.bufferFull = 0 ∧ c.clamps = 0 ∧ c.strays = 0

/-- R50, R61: a monitor after reset. -/
structure Monitor.AtReset (m : Monitor) : Prop where
  dark : m.arc = .dark ∧ m.setpoint = none ∧ m.purpose = none ∧ m.strikeTimer = none ∧ m.heightHold = false
  judged : m.goodCount = 0 ∧ m.samples = [] ∧ m.badCount = 0 ∧ m.retryCount = 0
  params : m.params = { band := 80, stableCount := 48, window := 48, lossCount := 10, strikeTimeout := 2000, strikeRetries := 2 }
  counts : m.classified = 0 ∧ m.discarded = 0 ∧ m.clamped = 0 ∧ m.retriesMade = 0 ∧ m.strikeFailures = 0 ∧
    m.disturbances = 0 ∧ m.losses = 0

/-- R64: the feeder budget after reset. -/
structure Budget.AtReset (b : Budget) : Prop where
  bookings : ∀ g, b.bookings.get g = ⟨.none, 0⟩
  values : b.total = 0 ∧ b.limit = 600 ∧ b.high = 500 ∧ b.low = 400 ∧ b.surge = 150
  gate : b.causes = ⟨false, some .park⟩ ∧ b.waitList = []
  counts : b.immediate = 0 ∧ b.fromList = 0 ∧ b.joins = 0 ∧ b.clampedRaises = 0 ∧ b.impossible = 0 ∧ b.gateClosings = 0

/-- R115, R116, R133, R134: the dispatcher after reset, with its settings. -/
structure Dispatcher.AtReset (d : Dispatcher) : Prop where
  empty : d.orders = [] ∧ d.urgent = [] ∧ d.normal = [] ∧ d.history = []
  numbers : d.counter = 1 ∧ d.urgentRun = 0
  counts : d.accepted = 0 ∧ d.refused = 0 ∧ d.done = 0 ∧ d.cancelled = 0 ∧ d.failed = 0 ∧ d.promotions = 0 ∧ d.dispatches = 0
  motion : d.settings.separation = 9000 ∧ d.settings.margin = 2000 ∧ d.settings.park = ⟨0, 120000⟩
  cranes : d.settings.swl = ⟨25000, 25000⟩ ∧ d.settings.reach = ⟨List.finRange 14, List.finRange 14⟩
  preference : ∀ p : PlaceIx, d.settings.preference.get p = if p.val + 1 ≤ 5 then .c1 else .c2
  choice : d.settings.mode = .nearest ∧ d.settings.urgentLimit = 4 ∧ d.settings.agingTime = 0

/-- R135: a crane after reset, with its park position. -/
structure Crane.AtReset (k : Crane) (park : Nat) : Prop where
  offline : k.state = .offline ∧ k.position = park ∧ k.target = none ∧ k.goal = none ∧ k.order = none
  hook : k.hook = none ∧ k.hookLoaded = false ∧ k.drive = 0 ∧ k.withdrawn = false
  causes : k.waitCause = none ∧ k.stopCause = none ∧ k.hoistTimer = none ∧ k.silenceTimer = none ∧ k.lastEnded = none
  counts : k.offlineEntries = 0 ∧ k.clippedTargets = 0 ∧ k.strays = 0 ∧ k.separationFaults = 0

/-- R152: a field line after reset: the filtered level is that of the input. -/
structure Line.AtReset (l : Line) : Prop where
  setting : l.function = .general ∧ l.activeLevel = .high ∧ l.filterTime = 10 ∧ l.edge = .both
  level : l.filtered = l.input ∧ l.filterTimer = none
  latch : l.latch = false ∧ l.changes = 0 ∧ l.glitches = 0

/-- Every block but the host link is at its reset values, with receivers in HUNT. -/
structure State.BlocksAtReset (s : State) : Prop where
  hall : s.hall.state = .park ∧ s.hall.cause = .reset ∧ s.hall.purged = false ∧ s.hall.purgeTimer = none
  hallTimes : s.hall.purgeTime = 20 ∧ s.hall.silenceTime = 0 ∧ s.hall.summaryPeriod = 0 ∧ s.hall.summaryTimer = none
  lines : ∀ i, (s.line i).AtReset
  bays : s.bayTable.AtReset
  channels : ∀ g, (s.channel g).AtReset
  monitors : ∀ g, (s.monitor g).AtReset
  budget : s.budget.AtReset
  heats : ∀ h, s.heat h = none
  trace : s.composer.total = 0 ∧ s.composer.trace = []
  remnants : ∀ i, s.remnant i = none
  remnantValues : s.remnants.margin = 20 ∧ s.remnants.minDimension = 300 ∧ s.remnants.agingPeriod = 1440 ∧
    s.remnants.expiryCount = 30 ∧ s.remnants.expired = []
  aging : s.remnants.agingTimer = some (1440 * 60 * 1000) ∧ s.remnants.expiries = 0
  dispatcher : s.dispatcher.AtReset
  c1 : (s.crane .c1).AtReset 0
  c2 : (s.crane .c2).AtReset 120000
  receivers : ∀ p, s.receivers.get p = .hunt

/-- R172, R173, R174, R176: the host link right after power-on or the reset pin. -/
structure Link.AtReset (l : Link) (cause : RestartCause) (rate : LinkRate) : Prop where
  counts : l.stats = ⟨0, 0, 0, 0, 0⟩ ∧ l.replies = [] ∧ l.sequence = 0
  notices : ∀ k : NoticeClass, l.notices.get k.index = ⟨k = .restart, if k = .restart then 1 else 0, true⟩
  mask : l.master = true
  idle : l.sending = none ∧ l.silenceTimer = none ∧ l.silent = false
  strap : l.restart = cause ∧ l.rate = rate

/-! ## Requests -/

/-- R169, R171: the body length of each request type but STEPS. -/
def requestLengths : List (Nat × Nat) :=
  [(0x01, 0), (0x02, 0), (0x03, 4), (0x04, 3), (0x11, 0), (0x12, 0), (0x13, 0), (0x14, 0), (0x15, 0), (0x16, 0), (0x17, 3),
   (0x18, 7), (0x19, 1), (0x1A, 2), (0x21, 1), (0x22, 7), (0x23, 1), (0x24, 1), (0x25, 2), (0x26, 92)] ++
  [(0x32, 2), (0x33, 1), (0x34, 1), (0x35, 1), (0x36, 1), (0x37, 1), (0x38, 9), (0x39, 1), (0x41, 7), (0x42, 0), (0x51, 13),
   (0x52, 1), (0x53, 1), (0x54, 1), (0x55, 1), (0x56, 5)] ++
  [(0x61, 10), (0x62, 5), (0x63, 3), (0x64, 1), (0x65, 1), (0x66, 1), (0x67, 8), (0x68, 6), (0x69, 1), (0x71, 13), (0x72, 2),
   (0x73, 4), (0x74, 2), (0x75, 1), (0x76, 1), (0x77, 1), (0x78, 38)]

/-- R169: a request body of the length its type's fields fill; for STEPS 2 + 16 x count, the count being its second byte. -/
def requestLengthFits (f : Frame) : Bool :=
  if f.typ.toNat = 0x31 then 2 ≤ f.body.length && f.body.length == 2 + 16 * (f.body.getD 1 0).toNat
  else requestLengths.contains (f.typ.toNat, f.body.length)

/-- The requests whose one field is a number, with its lowest and highest value: a bay, channel, line, heat index, remnant record
index or crane. -/
def numberRequests : List (Nat × Nat × Nat) :=
  [(0x19, 1, 16), (0x21, 1, 8), (0x23, 1, 8), (0x24, 1, 8), (0x33, 1, 4), (0x34, 1, 4), (0x35, 1, 4), (0x36, 1, 4),
   (0x37, 1, 4), (0x39, 1, 4), (0x52, 0, 31), (0x53, 0, 31), (0x54, 0, 31), (0x55, 0, 31)] ++
  [(0x64, 0, 95), (0x65, 0, 95), (0x66, 0, 95), (0x69, 0, 95), (0x75, 1, 2), (0x76, 1, 2), (0x77, 1, 2)]

/-- The reply to each of the fourteen requests that only read, from the state that has taken the request's frame; none where the
body does not name what it asks for. -/
def State.statusReply (s : State) : Instr → Option Frame
  | .identify tag [] => some (reply 0x01 tag .ok s.link.identityBytes)
  | .linkStatus tag [] => some (reply 0x02 tag .ok s.link.statusBytes)
  | .hallStatus tag [] => some (reply 0x11 tag .ok s.hallStatusBytes)
  | .lineStatus tag [n] => (numbered 16 n.toNat).map (fun i => reply 0x19 tag .ok (s.lineStatusBytes i))
  | .bayStatus tag [n] => (numbered 8 n.toNat).map (fun b => reply 0x21 tag .ok (s.bayStatusBytes b))
  | .channelStatus tag [n] => (numbered 4 n.toNat).map (fun g => reply 0x37 tag .ok (s.channel g).statusBytes)
  | .arcStatus tag [n] => (numbered 4 n.toNat).map (fun g => reply 0x39 tag .ok (s.monitor g).statusBytes)
  | .budgetStatus tag [] => some (reply 0x42 tag .ok s.budget.statusBytes)
  | .heatStatus tag [n] => (indexed 32 n.toNat).map (fun h => reply 0x55 tag .ok (s.heatStatusBytes h))
  | .traceRead tag [a, b, c, d, count] =>
    (traceRange? [a, b, c, d, count]).map (fun r => reply 0x56 tag .ok (s.composer.traceReadBytes r.1 r.2))
  | .remnantRead tag [n] => (indexed 96 n.toNat).map (fun i => reply 0x66 tag .ok (s.remnantReadBytes i))
  | .remnantFind tag [a, b, c, d, e, f, g, h] =>
    (remnantSearch? [a, b, c, d, e, f, g, h]).map (fun q =>
      reply 0x67 tag .ok (remnantFindBytes (s.candidates q.grade q.thickness q.width q.length q.tag)))
  | .orderStatus tag [a, b] =>
    let n := a.toNat + 256 * b.toNat
    if n = 0 then some (reply 0x74 tag .ok s.dispatcher.bytes)
    else
      match s.order n, s.ended n with
      | some o, _ => some (reply 0x74 tag .ok (o.bytes (s.dispatcher.position n)))
      | none, some e => some (reply 0x74 tag .ok e.bytes)
      | none, none => some (reply 0x74 tag .unknownOrder [])
  | .craneStatus tag [n] => (crane? n.toNat).map (fun c => reply 0x75 tag .ok (s.craneStatusBytes c))
  | _ => none

/-! ## Layouts and steps -/

/-- R2: the layout condition, with margin M and the two park positions. -/
structure Layout.Meets (l : Layout) (m : Nat) (park : ByCrane Nat) : Prop where
  ends : ∀ b, (l.bays.get b).first ≤ l.runwayEnd ∧ (l.bays.get b).last ≤ l.runwayEnd
  places : l.intake ≤ l.runwayEnd ∧ l.offload ≤ l.runwayEnd ∧ (∀ r, l.racks.get r ≤ l.runwayEnd) ∧
    park.c1 ≤ l.runwayEnd ∧ park.c2 ≤ l.runwayEnd
  apart : ∀ a b, a ≠ b → (l.bays.get a).last < (l.bays.get b).first ∨ (l.bays.get b).last < (l.bays.get a).first
  clear : ∀ b p, p = l.intake ∨ p = l.offload ∨ (∃ r, p = l.racks.get r) →
    p + m < (l.bays.get b).first ∨ (l.bays.get b).last + m < p
  centres : ∀ a b, a ≠ b → ((l.bays.get a).first + (l.bays.get a).last) / 2 + m < (l.bays.get b).first ∨
    (l.bays.get b).last + m < ((l.bays.get a).first + (l.bays.get a).last) / 2

/-- R1, R3: the fields of PLACES_SET in range. -/
structure Layout.InRange (l : Layout) : Prop where
  runwayEnd : 40000 ≤ l.runwayEnd ∧ l.runwayEnd ≤ 250000
  bays : ∀ b, (l.bays.get b).first < (l.bays.get b).last ∧ (l.bays.get b).last ≤ 250000
  places : l.intake ≤ 250000 ∧ l.offload ≤ 250000 ∧ ∀ r, l.racks.get r ≤ 250000

/-- R3, R171: the body of PLACES_SET. -/
def Layout.body (l : Layout) : List Byte :=
  u32 l.runwayEnd ++ l.bays.toList.flatMap (fun i => u32 i.first ++ u32 i.last) ++ u32 l.intake ++
    l.racks.toList.flatMap u32 ++ u32 l.offload

/-- R25: the ranges of a step's fields. -/
def Step.InRange : Step → Prop
  | .travel x y feed => x ≤ 160000 ∧ y ≤ 45000 ∧ feed ≤ 40000
  | .pierce current setpoint dwell => 20 ≤ current ∧ current ≤ 400 ∧ 600 ≤ setpoint ∧ setpoint ≤ 2500 ∧ dwell ≤ 10000
  | .cutLine x y feed current setpoint => x ≤ 160000 ∧ y ≤ 45000 ∧ 10 ≤ feed ∧ feed ≤ 40000 ∧ 20 ≤ current ∧ current ≤ 400 ∧
    600 ≤ setpoint ∧ setpoint ≤ 2500
  | .cutArc x y dx dy _ feed current setpoint => x ≤ 160000 ∧ y ≤ 45000 ∧ -160000 ≤ dx ∧ dx ≤ 160000 ∧ -45000 ≤ dy ∧
    dy ≤ 45000 ∧ 10 ≤ feed ∧ feed ≤ 40000 ∧ 20 ≤ current ∧ current ≤ 400 ∧ 600 ≤ setpoint ∧ setpoint ≤ 2500
  | .extinguish => True
  | .mark x y part height current setpoint => x ≤ 160000 ∧ y ≤ 45000 ∧ part ≤ 65535 ∧ 5 ≤ height ∧ height ≤ 50 ∧ 5 ≤ current ∧
    current ≤ 40 ∧ 400 ≤ setpoint ∧ setpoint ≤ 1500
  | .milestone code => code ≤ 65535
  | .check _ _ timeout => 1 ≤ timeout ∧ timeout ≤ 600
  | .finish => True

/-- The fields of a step fit the bits that carry them (R177). -/
def Step.Fits : Step → Prop
  | .travel x y feed => x < 2 ^ 24 ∧ y < 2 ^ 16 ∧ feed < 2 ^ 16
  | .pierce current setpoint dwell => current < 2 ^ 16 ∧ setpoint < 2 ^ 16 ∧ dwell < 2 ^ 16
  | .cutLine x y feed current setpoint => x < 2 ^ 24 ∧ y < 2 ^ 16 ∧ feed < 2 ^ 16 ∧ current < 2 ^ 16 ∧ setpoint < 2 ^ 16
  | .cutArc x y dx dy _ feed current setpoint => x < 2 ^ 18 ∧ y < 2 ^ 16 ∧ -2 ^ 18 ≤ dx ∧ dx < 2 ^ 18 ∧ -2 ^ 16 ≤ dy ∧
    dy < 2 ^ 16 ∧ feed < 2 ^ 16 ∧ current < 2 ^ 16 ∧ setpoint < 2 ^ 16
  | .mark x y part height current setpoint => x < 2 ^ 24 ∧ y < 2 ^ 16 ∧ part < 2 ^ 16 ∧ height < 2 ^ 8 ∧ current < 2 ^ 8 ∧
    setpoint < 2 ^ 16
  | .milestone code => code < 2 ^ 16
  | .check _ _ timeout => timeout < 2 ^ 16
  | .extinguish => True
  | .finish => True

/-- R177: the first bytes a step record may have: a kind code, with bit 4 for a CUT_ARC alone. -/
def stepKinds : List Nat := [1, 2, 3, 4, 20, 5, 6, 7, 8, 9]

/-- R177: the 16 bytes of a step record. The four coordinates of a CUT_ARC are packed into 72 bits. -/
def Step.record : Step → List Byte
  | .travel x y feed => u8 1 ++ toBytes 3 x ++ u16 y ++ u16 feed ++ List.replicate 8 0
  | .pierce current setpoint dwell => u8 2 ++ u16 current ++ u16 setpoint ++ u16 dwell ++ List.replicate 9 0
  | .cutLine x y feed current setpoint =>
    u8 3 ++ toBytes 3 x ++ u16 y ++ u16 feed ++ u16 current ++ u16 setpoint ++ List.replicate 4 0
  | .cutArc x y dx dy direction feed current setpoint =>
    u8 (if direction = .ccw then 20 else 4) ++
      toBytes 9 (x + 2 ^ 18 * y + 2 ^ 34 * (dx % 2 ^ 19).toNat + 2 ^ 53 * (dy % 2 ^ 17).toNat) ++
      u16 feed ++ u16 current ++ u16 setpoint
  | .extinguish => u8 5 ++ List.replicate 15 0
  | .mark x y part height current setpoint =>
    u8 6 ++ toBytes 3 x ++ u16 y ++ u16 part ++ u8 height ++ u8 current ++ u16 setpoint ++ List.replicate 4 0
  | .milestone code => u8 7 ++ u16 code ++ List.replicate 13 0
  | .check line active timeout => u8 8 ++ u8 (line.val + 1) ++ flag active ++ u16 timeout ++ List.replicate 11 0
  | .finish => u8 9 ++ List.replicate 15 0

/-- R26: the body of STEPS. -/
def stepsRequestBody (g : Gantry) (steps : List Step) : List Byte :=
  u8 (g.val + 1) ++ u8 steps.length ++ steps.flatMap Step.record

/-! ## Lines -/

/-- The record that LINE_SET leaves (R156). -/
def lineAfterSet (l : Line) (function : LineFunction) (level : Level) (filter : Nat) (edge : LatchEdge) : Line :=
  { l with
    function := function
    activeLevel := level
    filterTime := filter
    edge := edge
    latch := if l.function = function ∧ l.activeLevel = level then l.latch else false
    filterTimer := if l.filterTimer = none then none else some filter }

/-- The record of a line whose change is taken (R153, R154). -/
def lineAfterChange (l : Line) : Line :=
  { l with
    filtered := l.input
    filterTimer := none
    changes := bump l.changes
    latch := l.latch ||
      (match l.edge with
        | .enter => l.input == l.activeLevel
        | .leave => l.input != l.activeLevel
        | .both => true) }

/-! ## Aggregates (R155) -/

/-- No line but line i makes the aggregate of function f active. -/
def State.AloneIn (s : State) (i : LineIx) (f : LineFunction) : Prop :=
  ∀ j, j ≠ i → (s.line j).function = f → (s.line j).filtered ≠ (s.line j).activeLevel

/-- R155, R156: LINE_SET with this function and level makes the aggregate of function f active, by line i alone. -/
def State.SetRises (s : State) (i : LineIx) (function : LineFunction) (level : Level) (f : LineFunction) : Prop :=
  s.AloneIn i f ∧ ¬ ((s.line i).function = f ∧ (s.line i).filtered = (s.line i).activeLevel) ∧
    function = f ∧ (s.line i).filtered = level

/-- R155, R156: LINE_SET with this function and level makes the aggregate of function f inactive, which line i alone held active. -/
def State.SetFalls (s : State) (i : LineIx) (function : LineFunction) (level : Level) (f : LineFunction) : Prop :=
  s.AloneIn i f ∧ ((s.line i).function = f ∧ (s.line i).filtered = (s.line i).activeLevel) ∧
    ¬ (function = f ∧ (s.line i).filtered = level)

/-- R36: no channel waits at a CHECK of line i. -/
def State.NobodyChecks (s : State) (i : LineIx) : Prop :=
  ∀ g active timeout, (s.channel g).state = .waitCheck → (s.channel g).inProgress ≠ .check i active timeout

/-- R39, R45, R71: channel g holds no booking where its arc was lit, nor where it held none. -/
def State.GivesUpBooking (s t : State) (g : Gantry) : Prop :=
  (s.monitor g).arc ≠ .dark ∨ s.booking g = ⟨.none, 0⟩ → t.booking g = ⟨.none, 0⟩

/-- R39: what a hold with its cause leaves: the channel HELD with the halt timer at 1 000 ms, dwell and check timers abandoned, the
arc DARK, its booking released and no entry in the wait list; buffer, window, bay and path stay. The reentry flag is
notes/assumptions/34. -/
structure State.HoldLeft (s t : State) (g : Gantry) (cause : HeldCause) : Prop where
  state : (t.channel g).state = .held ∧ (t.channel g).heldCause = some cause ∧ (t.channel g).haltTimer = some 1000
  timers : (t.channel g).dwellTimer = none ∧ (t.channel g).checkTimer = none
  kept : (t.channel g).buffer = (s.channel g).buffer ∧ (t.channel g).window = (s.channel g).window ∧
    (t.channel g).bay = (s.channel g).bay ∧ (t.channel g).path = (s.channel g).path
  reentry : (t.channel g).reentry = ((s.channel g).reentry || ((s.monitor g).arc != .dark &&
    ((s.channel g).activeCut.isSome || (s.channel g).dwellTimer.isSome)))
  mark : (t.channel g).inProgress = (match (s.channel g).inProgress with | .mark .. => .none | p => p)
  dark : (t.monitor g).arc = .dark ∧ ∀ w ∈ t.budget.waitList, w.channel ≠ g
  released : s.GivesUpBooking t g
  reported : (t.notice (.channelEvent g)).pending = true

/-- R39: a hold, with HALT the first message sent. -/
structure State.Held (s t : State) (g : Gantry) (cause : HeldCause) : Prop extends s.HoldLeft t g cause where
  halted : ∃ more, t.sent = s.sent ++ .gantry g .halt :: more

/-- R145: crane c sets its load down at bay b. -/
def State.SetsDownAt (s : State) (c : CraneId) (b : BayIx) : Prop :=
  (s.crane c).state = .hoist ∧
    ∃ n o, (s.crane c).order = some n ∧ s.order n = some o ∧ o.state = .lowering ∧ o.dest = .bay b

/-- R145: crane c waits for the guard of its destination, bay b. -/
def State.WaitsForGuard (s : State) (c : CraneId) (b : BayIx) : Prop :=
  (s.crane c).state = .wait ∧ (s.crane c).waitCause = some .guard ∧
    ∃ n o, (s.crane c).order = some n ∧ s.order n = some o ∧ o.dest = .bay b

/-- R40: channel g burns at bay b and is not HELD, and with its arc lit it waits for no booking. -/
def State.RunsAt (s : State) (g : Gantry) (b : BayIx) : Prop :=
  (s.channel g).bay = some b ∧ (s.channel g).state ≠ .idle ∧ (s.channel g).state ≠ .held ∧
    ((s.monitor g).arc ≠ .dark → ∀ w ∈ s.budget.waitList, w.channel ≠ g)

/-- R40, R145, R155: what the guard of bay b does when it becomes active: a channel that burns there is held with cause GUARD, which
an earlier cause gives way to, and a crane setting down there is halted and waits. -/
structure State.GuardTakes (s t : State) (b : BayIx) : Prop where
  holds : ∀ g, g = gantryOfBay b → s.RunsAt g b →
    s.HoldLeft t g .guard ∧ .gantry g .halt ∈ t.sent.drop s.sent.length
  held : ∀ g, g = gantryOfBay b → (s.channel g).bay = some b → (s.channel g).state = .held →
    t.channels = put s.channels g { s.channel g with heldCause := some .guard }
  others : ∀ g, g = gantryOfBay b → (s.channel g).bay ≠ some b ∨ (s.channel g).state = .idle →
    t.channels = s.channels ∧ t.monitors = s.monitors ∧ t.budget = s.budget
  halts : ∀ c, s.SetsDownAt c b →
    t.crane c = { s.crane c with state := .wait, waitCause := some .guard, hoistTimer := none } ∧
      .crane c .halt ∈ t.sent.drop s.sent.length ∧ (t.notice (.crane c)).pending = true

/-- R145, R155: what the guard of bay b does when it becomes inactive: the cranes that wait for it set down. -/
def State.GuardFrees (s t : State) (b : BayIx) : Prop :=
  ∀ c, s.WaitsForGuard c b →
    t.crane c = { s.crane c with state := .hoist, waitCause := none, stopCause := none, hoistTimer := some 120000 } ∧
      .crane c .hoistSet ∈ t.sent.drop s.sent.length ∧ (t.notice (.crane c)).pending = true

/-- R40, R145, R155: the guard of bay b becomes active and nothing else happens: the HALT of a hold is the first message sent, and
no other crane is touched. -/
structure State.GuardRises (s t : State) (b : BayIx) : Prop extends s.GuardTakes t b where
  first : ∀ g, g = gantryOfBay b → s.RunsAt g b → ∃ more, t.sent = s.sent ++ .gantry g .halt :: more
  leaves : ∀ c, ¬ s.SetsDownAt c b → t.crane c = s.crane c

/-- R43, R145, R155: the guard of bay b becomes inactive and nothing else happens: no channel goes on, and no crane but those that
wait for it is touched. -/
structure State.GuardFalls (s t : State) (b : BayIx) : Prop where
  runs : t.channels = s.channels ∧ t.monitors = s.monitors ∧ t.budget = s.budget
  sets : s.GuardFrees t b
  leaves : ∀ c, ¬ s.WaitsForGuard c b → t.crane c = s.crane c

/-- R155, R156: the guard of bay b becomes inactive and that of bay b' active, by one line that is moved. -/
structure State.GuardMoves (s t : State) (b b' : BayIx) : Prop extends s.GuardTakes t b' where
  sets : s.GuardFrees t b
  leaves : ∀ c, ¬ s.WaitsForGuard c b → ¬ s.SetsDownAt c b' → t.crane c = s.crane c

/-- R74: each channel waits once, and none with its arc lit. -/
structure State.WaitsSound (s : State) : Prop where
  once : (s.budget.waitList.map (·.channel)).Nodup
  dark : ∀ g, (s.monitor g).arc ≠ .dark → ∀ w ∈ s.budget.waitList, w.channel ≠ g

/-- R75, R161: what the hall stop brings about when it becomes active: every run ends with HALL_STOP and no booking
survives, that of a waiter admitted on the way included; both cranes that are not OFFLINE stop and suspend their orders, and a hall
in PURGE, RUN or PAUSE is in PAUSE with cause STOP_LINE. -/
structure State.HallStopped (s t : State) : Prop where
  ended : ∀ g, (s.channel g).state ≠ .idle →
    (t.channel g).state = .idle ∧ (t.channel g).bay = none ∧ (t.channel g).buffer = [] ∧ (t.channel g).window = [] ∧
      (t.channel g).lastEnd = (s.channel g).bay.map (fun b => ⟨.hallStop, b, (s.channel g).pierceConsumed⟩)
  dark : ∀ g, (s.channel g).state ≠ .idle → (t.monitor g).arc = .dark ∧ ∀ w ∈ t.budget.waitList, w.channel ≠ g
  released : ∀ g, (s.channel g).state ≠ .idle → (s.monitor g).arc ≠ .dark → t.booking g = ⟨.none, 0⟩
  unbooked : ∀ g, (s.channel g).state ≠ .idle → s.booking g = ⟨.none, 0⟩ →
    ((s.channel g).inProgress.strike ≠ none ∨ ∀ w ∈ s.budget.waitList, w.channel ≠ g) → t.booking g = ⟨.none, 0⟩
  rested : ∀ g, (s.channel g).state ≠ .idle → .gantry g .halt ∈ t.sent.drop s.sent.length ∧
    .gantry g .rest ∈ t.sent.drop s.sent.length ∧ (t.notice (.channelEnd g)).pending = true
  bays : ∀ g b, (s.channel g).state ≠ .idle → (s.channel g).bay = some b → (t.bay b).state ≠ .burning
  idles : ∀ g, (s.channel g).state = .idle → (t.channel g).state = .idle
  stopped : ∀ c, (s.crane c).state ≠ .offline → (t.crane c).state = .stopped ∧ (t.crane c).stopCause = some .hallStop ∧
    (t.crane c).waitCause = none ∧ (t.crane c).hoistTimer = none ∧ .crane c .halt ∈ t.sent.drop s.sent.length
  offline : ∀ c, (s.crane c).state = .offline → t.crane c = s.crane c
  suspended : ∀ c n o, (s.crane c).state ≠ .offline → (s.crane c).order = some n → s.order n = some o → o.state ≠ .suspended →
    t.order n = some { o with state := .suspended, suspendedPhase := o.phase }
  hall : t.hall =
    if s.hall.state = .park then s.hall else { s.hall with state := .pause, cause := .stopLine, purgeTimer := none }
  gate : s.hall.state = .purge ∨ s.hall.state = .run → t.budget.causes.hall = some .pause

/-- R159: what a wake line that becomes active brings about in hall PARK. -/
structure State.WokenByLine (s t : State) : Prop where
  hall : t.hall = { s.hall with state := .purge, cause := .wakeLine, purgeTimer := some (s.hall.purgeTime * 1000) }
  gate : t.budget.causes.hall = some .purge
  reported : (t.notice .hall).pending = true

/-- R146: what crane c's overload brings about when it becomes active: a pick is withdrawn, and otherwise a loaded crane that is not
OFFLINE stops. -/
structure State.Overloaded (s t : State) (c : CraneId) : Prop where
  withdrawn : ∀ n o, (s.crane c).state = .hoist → (s.crane c).order = some n → s.order n = some o → o.state = .lifting →
    (s.crane c).withdrawn = false →
    t.crane c = { s.crane c with withdrawn := true, hoistTimer := some 120000 } ∧
      t.sent = s.sent ++ [.crane c .halt, .crane c .hoistSet]
  stopped : ((s.crane c).state = .hoist → ∀ n o, (s.crane c).order = some n → s.order n = some o → o.state ≠ .lifting) →
    (s.crane c).hook ≠ none → (s.crane c).state ≠ .offline →
    t.crane c = { s.crane c with state := .stopped, stopCause := some .overload, waitCause := none, hoistTimer := none } ∧
      t.sent = s.sent ++ [.crane c .halt] ∧
      ∀ n o, (s.crane c).order = some n → s.order n = some o → o.state ≠ .suspended →
        t.order n = some { o with state := .suspended, suspendedPhase := o.phase }
  nothing : (s.crane c).state ≠ .hoist → (s.crane c).hook = none ∨ (s.crane c).state = .offline →
    t.cranes = s.cranes ∧ t.sent = s.sent
  other : t.crane c.other = s.crane c.other

/-! ## Orders and cranes -/

/-- R127: a dispatch pass finds nothing to do: the hall is in PARK or PAUSE, or no order waits. -/
def State.NothingToDispatch (s : State) : Prop :=
  s.hall.state = .park ∨ s.hall.state = .pause ∨ s.dispatcher.urgent = [] ∧ s.dispatcher.normal = []

/-- R136, R141, R147: a position p of crane c that lies on the runway, keeps the separation and finds the other crane at rest, so
that neither the separation test nor a recomputation changes anything. -/
structure State.ReportsAlone (s : State) (c : CraneId) (p : Nat) : Prop where
  onRunway : p ≤ s.layout.runwayEnd
  apart : match c with
    | .c1 => p + s.settings.separation ≤ (s.crane .c2).position
    | .c2 => (s.crane .c1).position + s.settings.separation ≤ p
  other : (s.crane c.other).state ≠ .travel ∧ (s.crane c.other).state ≠ .yielding ∧ (s.crane c.other).state ≠ .wait

/-- R136, R137, R147: C2's last reported position less C1's is below S. -/
def State.CranesTooClose (s : State) : Prop := (s.crane .c2).position < (s.crane .c1).position + s.settings.separation

/-- R123: the order leaves its list and the queue and joins the history; the counter of its final state is the caller's. -/
def Dispatcher.without (d : Dispatcher) (e : Ended) : Dispatcher :=
  { d with
    orders := d.orders.filter (fun o => o.number ≠ e.number)
    urgent := d.urgent.filter (· ≠ e.number)
    normal := d.normal.filter (· ≠ e.number)
    history := (d.history ++ [e]).drop (d.history.length + 1 - 32) }

/-- The orders of a dispatcher with the state of one of them replaced. -/
def Dispatcher.withOrderState (d : Dispatcher) (n : Nat) (state : OrderState) : Dispatcher :=
  { d with orders := d.orders.map (fun o => if o.number = n then { o with state } else o) }

/-! ## Claims given back (R10, R105, R124) -/

/-- R124: t has given back what order o claimed at its acceptance, before its lift: bays, remnant record and the reference of a load
record built for it. -/
structure State.GivesBack (s t : State) (o : Order) : Prop where
  dest : ∀ b, o.dest = .bay b → (s.bay b).state = .loading → (s.bay b).claim = some o.number →
    t.bay b = Bay.toEmpty (s.bay b) ∧ b ∈ t.bayTable.changed ∧ (t.notice .bay).pending = true
  source : ∀ b prior, o.source = .bay b → o.priorBay = some prior → (s.bay b).state = .unloading →
    (s.bay b).claim = some o.number → (s.bay b).comparePending = false ∨ prior = .cut →
    t.bay b = { s.bay b with state := prior, claim := none } ∧ b ∈ t.bayTable.changed ∧ (t.notice .bay).pending = true
  compared : ∀ b prior code p e, o.source = .bay b → o.priorBay = some prior → (s.bay b).state = .unloading →
    (s.bay b).claim = some o.number → (s.bay b).comparePending = true →
    prior = .placed ∨ prior = .ready ∨ prior = .mismatch → (s.bay b).lastDeclared = some code → (s.bay b).plate = some p →
    s.heat p.heat = some e → t.bay b = { s.bay b with
      claim := none, comparePending := false, state := if e.code = code then .ready else .mismatch
      plate := some { p with identity := if e.code = code then .matched else .mismatched } }
  bays : ∀ b, o.dest ≠ .bay b → o.source ≠ .bay b → t.bay b = s.bay b
  record : ∀ k i r prior, o.source = .rack k → o.priorRemnant = some prior → s.remnant i = some r → r.slot = some k →
    (∀ j q, s.remnant j = some q → q.slot = some k → j = i) → r.state = .called →
    t.remnant i = some { r with
      state := if prior = .stocked ∧ s.remnants.expiryCount ≤ r.age then .expired else prior }
  records : ∀ i, (∀ k r, o.source = .rack k → s.remnant i = some r → r.slot ≠ some k) → t.remnant i = s.remnant i
  reference : ∀ r, o.kind = .loadNew ∨ o.kind = .loadRemnant ∨ o.kind = .restock ∨ o.kind = .scrapRemnant → o.load = some r →
    t.composer = { s.composer with
      heats := put s.composer.heats r.heat ((s.heat r.heat).map (fun e => { e with refs := e.refs - 1 })) }
  noReference : o.kind = .unloadToRack ∨ o.kind = .unloadToOffload ∨ o.kind = .deliver → t.composer = s.composer

/-- R117: the destinations a kind allows. -/
def OrderKind.Admits (k : OrderKind) : Site → Prop
  | .bay _ => k = .loadNew ∨ k = .loadRemnant ∨ k = .deliver
  | .rack _ => k = .unloadToRack ∨ k = .restock ∨ k = .deliver
  | .offload => k = .unloadToOffload ∨ k = .scrapRemnant ∨ k = .deliver
  | .hook => False
  | .intake => False

/-! ## Crane settings -/

/-- R134: the ranges of the settings. -/
structure CraneSettings.InRange (t : CraneSettings) : Prop where
  motion : 2000 ≤ t.separation ∧ t.separation ≤ 30000 ∧ t.margin ≤ 5000 ∧ t.park.c1 ≤ 250000 ∧ t.park.c2 ≤ 250000
  swl : 1000 ≤ t.swl.c1 ∧ t.swl.c1 ≤ 60000 ∧ 1000 ≤ t.swl.c2 ∧ t.swl.c2 ≤ 60000
  reach : t.reach.c1 ≠ [] ∧ t.reach.c2 ≠ [] ∧ t.reach.c1.Pairwise (· < ·) ∧ t.reach.c2.Pairwise (· < ·)
  dispatch : 1 ≤ t.urgentLimit ∧ t.urgentLimit ≤ 8 ∧ (t.agingTime = 0 ∨ 30 ≤ t.agingTime ∧ t.agingTime ≤ 1800)

/-- R134, R171: the body of CRANE_SET. -/
def CraneSettings.body (t : CraneSettings) : List Byte :=
  u16 t.separation ++ u16 t.margin ++ u16 t.swl.c1 ++ u16 t.swl.c2 ++ bitmap 2 t.reach.c1 ++ bitmap 2 t.reach.c2 ++
    u8 (if t.mode = .nearest then 0 else 1) ++ t.preference.toList.flatMap (fun c => u8 (craneNumber c)) ++
    u8 t.urgentLimit ++ u16 t.agingTime ++ u32 t.park.c1 ++ u32 t.park.c2

/-! ## Submissions (R117-R122) -/

/-- R23: the mass in kg of a piece of width w, length l and thickness t. -/
def kilograms (w l t : Nat) : Nat := (w * l * t * 7850 + 999999999) / 1000000000

/-- R117: a place with the slot field that matches it. -/
def slotMatches (place slot : Nat) : Prop :=
  place ≤ 14 ∧ (10 ≤ place ∧ place ≤ 13 → 1 ≤ slot ∧ slot ≤ 24) ∧ (place < 10 ∨ 13 < place → slot = 0)

/-- R117: the fields of an ORDER_SUBMIT as they are numbered in its body. -/
structure SubmissionFields where
  kind : Nat
  cls : Nat
  choice : Nat
  source : Nat
  sourceSlot : Nat
  dest : Nat
  destSlot : Nat
  heat : Nat
  thickness : Nat
  width : Nat
  length : Nat

/-- The eleven fields fit the bytes that carry them. -/
structure SubmissionFields.Fit (f : SubmissionFields) : Prop where
  codes : f.kind < 256 ∧ f.cls < 256 ∧ f.choice < 256
  places : f.source < 256 ∧ f.sourceSlot < 256 ∧ f.dest < 256 ∧ f.destSlot < 256
  plate : f.heat < 256 ∧ f.thickness < 256 ∧ f.width < 65536 ∧ f.length < 65536

/-- R117, R171: the body of ORDER_SUBMIT. -/
def SubmissionFields.body (f : SubmissionFields) : List Byte :=
  u8 f.kind ++ u8 f.cls ++ u8 f.choice ++ u8 f.source ++ u8 f.sourceSlot ++ u8 f.dest ++ u8 f.destSlot ++ u8 f.heat ++
    u8 f.thickness ++ u16 f.width ++ u16 f.length

/-- R117: no field is out of range: the codes are known, the kind allows both places, the slot fields match them and the plate
fields are in range for LOAD_NEW and 0 for every other kind. -/
structure SubmissionFields.InRange (f : SubmissionFields) : Prop where
  codes : f.kind ≤ 6 ∧ f.cls ≤ 1 ∧ f.choice ≤ 2
  slots : slotMatches f.source f.sourceSlot ∧ slotMatches f.dest f.destSlot
  bayDest : f.kind = 0 ∨ f.kind = 1 → 2 ≤ f.dest ∧ f.dest ≤ 9
  rackDest : f.kind = 2 ∨ f.kind = 4 → 10 ≤ f.dest ∧ f.dest ≤ 13
  offload : f.kind = 3 ∨ f.kind = 5 → f.dest = 14
  fromIntake : f.kind = 0 → f.source = 1
  fromRack : f.kind = 1 ∨ f.kind = 4 ∨ f.kind = 5 → 10 ≤ f.source ∧ f.source ≤ 13
  fromBay : f.kind = 2 ∨ f.kind = 3 → 2 ≤ f.source ∧ f.source ≤ 9
  deliver : f.kind = 6 → f.source = 0 ∧ 2 ≤ f.dest ∧ f.choice ≠ 0
  plate : f.kind = 0 → f.heat ≤ 31 ∧ 3 ≤ f.thickness ∧ f.thickness ≤ 150 ∧ 500 ≤ f.width ∧ f.width ≤ 4000 ∧
    1000 ≤ f.length ∧ f.length ≤ 16000
  noPlate : f.kind ≠ 0 → f.heat = 0 ∧ f.thickness = 0 ∧ f.width = 0 ∧ f.length = 0

/-- R117, R171: the ORDER_SUBMIT of a kind whose plate fields are 0. -/
def submits (tag : Byte) (kind : OrderKind) (cls : OrderClass) (choice : CraneChoice) (source dest : Site) : Instr :=
  .orderSubmit tag (u8 kind.code ++ u8 cls.code ++ u8 choice.code ++ source.bytes ++ dest.bytes ++ List.replicate 6 0)

/-- R118: the state after a refused submission: its reply and one more order refused. -/
def State.refusal (s : State) (tag : Byte) (code : ResultCode) : State :=
  { s.answered (reply 0x71 tag code []) with dispatcher := { s.dispatcher with refused := bump s.dispatcher.refused } }

/-- R121: the crane choice allows crane c, and its SWL admits the mass. -/
def State.Lifts (s : State) (choice : CraneChoice) (mass : Nat) (c : CraneId) : Prop :=
  (choice = .any ∨ choice = .only c) ∧ mass ≤ s.settings.swl.get c

/-- R121: a place is in crane c's reach set; the hook of a DELIVER is not tested. -/
def State.Reaches (s : State) (c : CraneId) : Site → Prop
  | .hook => True
  | .intake => 0 ∈ s.settings.reach.get c
  | .bay b => ⟨b.val + 1, by omega⟩ ∈ s.settings.reach.get c
  | .rack k => ⟨k.rack.val + 9, by omega⟩ ∈ s.settings.reach.get c
  | .offload => 13 ∈ s.settings.reach.get c

/-- R97: no record lies in the slot, and no open order has it as its destination. -/
def State.SlotFree (s : State) (k : Slot) : Prop :=
  (∀ i r, s.remnant i = some r → r.slot ≠ some k) ∧ ∀ o ∈ s.dispatcher.orders, o.dest ≠ .rack k

/-- R120: the code with which a destination fails its claim test; for a DELIVER, `load` is the hook load record. -/
def State.DestFails (s : State) (dest : Site) (code : ResultCode) : Prop :=
  (∃ b, dest = .bay b ∧ ((s.bay b).state = .loading ∨ (s.bay b).state = .unloading) ∧ code = .bayClaimed) ∨
  (∃ b, dest = .bay b ∧ (s.bay b).state ≠ .empty ∧ (s.bay b).state ≠ .loading ∧ (s.bay b).state ≠ .unloading ∧
    code = .bayNotReady) ∨
  (∃ k, dest = .rack k ∧ ¬ s.SlotFree k ∧ code = .slotOccupied)

/-- R6, R97: a destination passes its claim test. -/
structure State.DestOpen (s : State) (dest : Site) : Prop where
  bay : ∀ b, dest = .bay b → (s.bay b).state = .empty
  rack : ∀ k, dest = .rack k → s.SlotFree k

/-- R6, R7: a bay claimed by order n. -/
def BayTable.claimed (t : BayTable) (b : BayIx) (state : BayState) (n : Nat) : BayTable :=
  { t with bays := put t.bays b { t.bays.get b with state, claim := some n }, changed := insertAsc b t.changed }

/-- R122: what the destination's claim does to the bay table. -/
def BayTable.withDest (t : BayTable) (dest : Site) (n : Nat) : BayTable :=
  match dest with
  | .bay b => t.claimed b .loading n
  | _ => t

/-- R16: the notices of an order's destination claim. -/
def destMarks : Site → List NoticeClass
  | .bay _ => [.bay]
  | _ => []

/-- R116, R118, R122: t is what an accepted submission leaves: the order o at the tail of the queue and of its list, its number used,
the reply with it, and the counter advanced. What it claims is said beside. -/
structure State.Accepts (s t : State) (tag : Byte) (o : Order) : Prop where
  replied : s.Replied t (reply 0x71 tag .ok (u16 s.dispatcher.counter))
  queue : t.dispatcher = { s.dispatcher with
    orders := s.dispatcher.orders ++ [o]
    counter := t.dispatcher.counter
    history := s.dispatcher.history.filter (fun e => e.number ≠ s.dispatcher.counter)
    urgent := if o.cls = .urgent then s.dispatcher.urgent ++ [s.dispatcher.counter] else s.dispatcher.urgent
    normal := if o.cls = .normal then s.dispatcher.normal ++ [s.dispatcher.counter] else s.dispatcher.normal
    accepted := bump s.dispatcher.accepted }
  advanced : s.dispatcher.counter < 65535 → (∀ p ∈ s.dispatcher.orders, p.number ≠ s.dispatcher.counter + 1) →
    t.dispatcher.counter = s.dispatcher.counter + 1
  frame : s.ChangesOnly [.link, .notices, .receivers, .bays, .composer, .remnants, .dispatcher] t

/-! ## Dispatch (R126-R130, R138, R139) -/

/-- R138: the runway positions crane d still needs. -/
def State.span (s : State) (d : CraneId) : List Nat :=
  (s.crane d).position :: (s.crane d).target.toList ++
    match s.orderInHand d with
    | some o =>
      match o.phase with
      | some .assigned => [s.layout.position o.source, s.layout.position o.dest]
      | some _ => [s.layout.position o.dest]
      | none => []
    | none => []

/-- R138: the positions crane c would need to carry order o from its dispatch on. -/
def State.spanWith (s : State) (c : CraneId) (o : Order) : List Nat :=
  (s.crane c).position ::
    if o.kind = .deliver then [s.layout.position o.dest] else [s.layout.position o.source, s.layout.position o.dest]

/-- R138: the span test of crane c with the positions it would need comes out compatible. -/
def State.SpansApart (s : State) (c : CraneId) (mine : List Nat) : Prop :=
  ∀ p ∈ mine, ∀ q ∈ s.span c.other,
    match c with
    | .c1 => p + s.settings.separation ≤ q
    | .c2 => q + s.settings.separation ≤ p

/-- R138: the span test comes out compatible after a yield of the other crane to position y. -/
def State.YieldsTo (s : State) (c : CraneId) (mine : List Nat) (y : Nat) : Prop :=
  ¬ s.SpansApart c mine ∧ (s.crane c.other).state = .idle ∧
    match c with
    | .c1 => y ≤ s.layout.runwayEnd ∧ (∃ p ∈ mine, y = p + s.settings.separation) ∧ ∀ p ∈ mine, p + s.settings.separation ≤ y
    | .c2 => (∃ p ∈ mine, p = y + s.settings.separation) ∧ ∀ p ∈ mine, y + s.settings.separation ≤ p

/-- R126: order o is eligible for crane c. -/
structure State.Eligible (s : State) (o : Order) (c : CraneId) : Prop where
  crane : if o.kind = .deliver then o.crane = some c ∧ (s.crane c).state = .stranded
    else (s.crane c).state = .idle ∧ (o.choice = .any ∨ o.choice = .only c)
  reach : s.Reaches c o.source ∧ s.Reaches c o.dest
  load : o.mass ≤ s.settings.swl.get c
  span : s.SpansApart c (s.spanWith c o) ∨ ∃ y, s.YieldsTo c (s.spanWith c o) y

/-- No order of a list of order numbers is eligible. -/
def State.NoneEligible (s : State) (numbers : List Nat) : Prop :=
  ∀ n ∈ numbers, ∀ o, s.order n = some o → ∀ c, ¬ s.Eligible o c

/-- R128: order o is the oldest eligible one of a list of order numbers. -/
def State.OldestEligible (s : State) (numbers : List Nat) (o : Order) : Prop :=
  s.order o.number = some o ∧ (∃ c, s.Eligible o c) ∧
    ∃ before after, numbers = before ++ o.number :: after ∧ s.NoneEligible before

/-- R128: order o is chosen, and the urgent-run counter is run after it. -/
def State.Chooses (s : State) (o : Order) (run : Nat) : Prop :=
  let d := s.dispatcher
  (s.OldestEligible d.urgent o ∧ s.NoneEligible d.normal ∧ run = d.urgentRun) ∨
  (s.OldestEligible d.urgent o ∧ ¬ s.NoneEligible d.normal ∧ d.urgentRun < d.settings.urgentLimit ∧ run = d.urgentRun + 1) ∨
  (¬ s.NoneEligible d.urgent ∧ s.OldestEligible d.normal o ∧ d.settings.urgentLimit ≤ d.urgentRun ∧ run = 0) ∨
  (s.NoneEligible d.urgent ∧ s.OldestEligible d.normal o ∧ run = 0)

/-- R129: crane c is taken for order o. -/
def State.ChoosesCrane (s : State) (o : Order) (c : CraneId) : Prop :=
  let away (d : CraneId) : Nat :=
    max (s.crane d).position (s.layout.position o.source) - min (s.crane d).position (s.layout.position o.source)
  s.Eligible o c ∧ (s.Eligible o c.other →
    match s.settings.mode with
    | .nearest => away c < away c.other ∨ away c = away c.other ∧ c = .c1
    | .byPlace => ∃ p, o.source.place = some p ∧ s.settings.preference.get p = c)

/-- R130, R139, R143: t is s after order o has been dispatched to crane c, with the urgent-run counter at run. A yield the span test
calls for is sent before the crane's own GOTO. -/
structure State.Dispatched (s t : State) (o : Order) (c : CraneId) (run : Nat) : Prop where
  dispatcher : t.dispatcher = { s.dispatcher with
    urgent := s.dispatcher.urgent.filter (· ≠ o.number)
    normal := s.dispatcher.normal.filter (· ≠ o.number)
    urgentRun := run
    dispatches := bump s.dispatcher.dispatches
    orders := s.dispatcher.orders.map (fun q =>
      if q.number = o.number then
        { q with crane := some c, queuedMs := none, state := if o.kind = .deliver then .carrying else .assigned }
      else q) }
  crane : (t.crane c).order = some o.number ∧ (t.crane c).state = .travel ∧ (t.crane c).goal =
    some ⟨s.layout.position (if o.kind = .deliver then o.dest else o.source), .order⟩
  sends : s.SpansApart c (s.spanWith c o) → t.crane c.other = s.crane c.other ∧
    ∃ p, (t.crane c).target = some p ∧ t.sent = s.sent ++ [.crane c (.goto p)]
  yields : ∀ y, s.YieldsTo c (s.spanWith c o) y →
    (t.crane c.other).state = .yielding ∧ (t.crane c.other).goal = some ⟨y, .yield⟩ ∧
      ∃ p q more, t.sent = s.sent ++ .crane c.other (.goto q) :: .crane c (.goto p) :: more
  reported : (t.notice (.crane c)).pending = true
  frame : s.ChangesOnly dispatchFrame t

/-! ## Runs -/

/-- R28, R30, R38: the channel when a TRAVEL has left the head of its buffer for an empty window and the steps behind it wait. -/
def Channel.afterTravel (c : Channel) (x y feed : Nat) (rest : List Step) : Channel :=
  { c with
    state := if rest = [] then .starved else .running
    reentry := false
    buffer := rest
    window := [⟨c.nextSeq, .motion (.travel x y feed), c.path, none⟩]
    nextSeq := c.nextSeq + 1
    path := some ⟨x, y⟩ }

/-- R30: nothing is consumed behind a TRAVEL in the window: the buffer is empty or a PIERCE is at its head. -/
def waitsBehindTravel (rest : List Step) : Prop :=
  rest = [] ∨ ∃ current volts dwell more, rest = .pierce current volts dwell :: more

/-- R45: what the end of channel g's run leaves, with its status: the channel IDLE and emptied, its arc DARK, its booking
released, its bay out of BURNING, HALT sent before REST where the status is not COMPLETE, and CHANNEL_END marked. `s` is the state
before the end and b the channel's bay. -/
structure State.RunEnded (s t : State) (g : Gantry) (b : BayIx) (status : EndStatus) : Prop where
  idle : (t.channel g).state = .idle ∧ (t.channel g).heldCause = none ∧ (t.channel g).bay = none ∧ (t.channel g).path = none
  emptied : (t.channel g).buffer = [] ∧ (t.channel g).window = [] ∧ (t.channel g).frozen = false ∧
    (t.channel g).inProgress = .none
  timers : (t.channel g).haltTimer = none ∧ (t.channel g).dwellTimer = none ∧ (t.channel g).checkTimer = none
  flags : (t.channel g).reentry = false ∧ (t.channel g).endConsumed = false ∧ (t.channel g).pierceConsumed = false
  last : (t.channel g).lastEnd = some ⟨status, b, (s.channel g).pierceConsumed⟩
  dark : (t.monitor g).arc = .dark
  waits : ∀ w ∈ t.budget.waitList, w.channel ≠ g
  released : s.GivesUpBooking t g
  burnt : (s.channel g).pierceConsumed = true →
    (t.bay b).state = .cut ∧ (t.bay b).outcome = (if status = .complete then .complete else .incomplete)
  unburnt : (s.channel g).pierceConsumed = false → (t.bay b).outcome = .none ∧
    ((t.bay b).state = .ready ∨ (s.bay b).comparePending = true ∧ (t.bay b).state = .mismatch)
  others : ∀ b', b' ≠ b → t.bay b' = s.bay b'
  rested : ∃ before, t.sent.filter (fun m => match m with | .gantry h _ => h == g | _ => false) =
    before ++ (if status = .complete then [] else [.gantry g .halt]) ++ [.gantry g .rest]
  reported : (t.notice (.channelEnd g)).pending = true ∧
    (t.notice (.channelEnd g)).count = bump8 (s.notice (.channelEnd g)).count

/-! ## Marks -/

/-- A MARK is in progress on a channel in RUNNING with nothing behind it in its buffer, no height hold on, and nobody waiting for a
booking, so that what follows the mark's end is the channel's starving alone. -/
structure State.MarksAlone (s : State) (g : Gantry) : Prop where
  running : (s.channel g).state = .running ∧ (s.channel g).buffer = []
  hold : (s.monitor g).heightHold = false
  waits : s.budget.waitList = []

/-- R35: t is s after a MARK of channel g has ended with trace record r: TORCH_OFF is sent, the arc is DARK and its booking released,
the step counts as done, and the channel, with an empty buffer, starves. -/
structure State.MarkEnded (s t : State) (g : Gantry) (r : TraceRecord) : Prop where
  channel : (t.channel g).state = .starved ∧ (t.channel g).inProgress = .none ∧ (t.channel g).window = [] ∧
    (t.channel g).stepsDone = bump (s.channel g).stepsDone
  dark : (t.monitor g).arc = .dark ∧ t.booking g = ⟨.none, 0⟩
  sent : t.sent = s.sent ++ [.gantry g .torchOff]
  reported : t.composer.lastMark = some r ∧ (t.notice .mark).pending = true
  frame : s.ChangesOnly [.receivers, .notices, .channels, .monitors, .budget, .composer, .sent] t

/-- R88, R90: a mark settled without a serial adds one trace record, whose outcome is final at once, and changes no heat entry. -/
def Composer.withRecord (c : Composer) (r : TraceRecord) : Composer :=
  { c with
    total := min 4294967295 (c.total + 1)
    trace := (c.trace ++ [r]).drop (c.trace.length + 1 - 64)
    lastMark := some r }

/-- A run that stops nowhere: every step answers a next state. -/
def RunsOn (s : State) : Prop := ∀ k, ∃ t, Host.Core.run Sys2Proof.core k s = .next t

end Sys2Proof.Machine
end

