-- ==== Sys2Proof/Certificates/Slice0/Obligations.lean ====
section
/-! DEFINITION. The statements for the provers: what the manual's rules say of the machine. -/

open Sys2Proof Sys2Proof.Machine

/-! ## The machine as a whole -/

/-- A step with a command in front of the queue is that command on the state with the queue's rest. -/
def Obligations.StepRunsTheFrontCommand : Prop :=
  ∀ (c : Instr) (rest : List Instr) (s : State), step { s with pending := c :: rest } = exec c { s with pending := rest }

/-- Every command is answered with a next state, and none touches the queue of commands that wait. -/
def Obligations.CommandsAnswerAndLeaveTheQueue : Prop :=
  ∀ (c : Instr) (s : State), ∃ t, exec c s = .next t ∧ t.pending = s.pending

/-- The model's choice (notes/assumptions/5): with no command waiting a step is one millisecond. Every running timer loses one ms
and waits at 0 for its expiry, which is a command; the times that count up saturate; nothing else changes. -/
def Obligations.IdleStepIsOneMillisecond : Prop :=
  ∀ s : State, s.pending = [] → ∃ t, step s = .next t ∧
    t.link = { s.link with silenceTimer := s.link.silenceTimer.map (· - 1), sinceFrame := min 65535 (s.link.sinceFrame + 1) } ∧
    t.hall = { s.hall with purgeTimer := s.hall.purgeTimer.map (· - 1), summaryTimer := s.hall.summaryTimer.map (· - 1) } ∧
    (∀ i, t.line i = { s.line i with filterTimer := (s.line i).filterTimer.map (· - 1) }) ∧
    (∀ g, t.channel g = { s.channel g with
      haltTimer := (s.channel g).haltTimer.map (· - 1)
      dwellTimer := (s.channel g).dwellTimer.map (· - 1)
      checkTimer := (s.channel g).checkTimer.map (· - 1)
      gantryTimer := (s.channel g).gantryTimer.map (· - 1) }) ∧
    (∀ g, t.monitor g = { s.monitor g with strikeTimer := (s.monitor g).strikeTimer.map (· - 1) }) ∧
    t.remnants = { s.remnants with agingTimer := s.remnants.agingTimer.map (· - 1) } ∧
    t.dispatcher = { s.dispatcher with
      orders := s.dispatcher.orders.map (fun o => { o with queuedMs := o.queuedMs.map (fun n => min 65535999 (n + 1)) }) } ∧
    (∀ c, t.crane c = { s.crane c with
      hoistTimer := (s.crane c).hoistTimer.map (· - 1)
      silenceTimer := (s.crane c).silenceTimer.map (· - 1) }) ∧
    s.ChangesOnly [.link, .hall, .lines, .channels, .monitors, .remnants, .dispatcher, .cranes] t

/-- R64, R72: every step keeps T the sum of the four bookings and the gate's hall cause that of the hall state. That it leaves no
dispatch pass owed is the model's own (notes/assumptions/7). -/
def Obligations.BudgetAndGateKept : Prop :=
  ∀ s t : State, s.Inv → step s = .next t → t.Inv

/-- R24, R28, R91, R115, R116, R170: no step makes a list outgrow its capacity. -/
def Obligations.CapacitiesKept : Prop :=
  ∀ s t : State, s.WithinCapacity → step s = .next t → t.WithinCapacity

/-- R81, R82, R88: every step keeps each next serial within first serial..100 000 and the heat codes in use distinct. -/
def Obligations.HeatTableKept : Prop :=
  ∀ s t : State, s.HeatTableSound → step s = .next t → t.HeatTableSound

/-- R116: every step keeps the order numbers distinct and the counter at a number in range that no open order holds. -/
def Obligations.OrderNumbersKept : Prop :=
  ∀ s t : State, s.OrderNumbersSound → step s = .next t → t.OrderNumbersSound

/-- R50, R51, R54, R56, R58, R60: every step keeps the monitor records sound: the strike timer runs exactly in STRIKING, height
hold is on exactly in DISTURBED, setpoint and strike purpose are present exactly while the arc is lit. -/
def Obligations.MonitorsKept : Prop :=
  ∀ s t : State, s.MonitorsSound → step s = .next t → t.MonitorsSound

/-- R135: every step keeps a wait cause present exactly in WAIT and a stop cause exactly in STOPPED. -/
def Obligations.CraneCausesKept : Prop :=
  ∀ s t : State, s.CranesSound → step s = .next t → t.CranesSound

/-- The invariants hold after reset; that no dispatch pass is owed is the model's own (notes/assumptions/7). -/
def Obligations.InvariantsHoldAtReset : Prop :=
  State.reset.Inv ∧ State.reset.WithinCapacity ∧ State.reset.HeatTableSound ∧ State.reset.OrderNumbersSound ∧
    State.reset.MonitorsSound ∧ State.reset.CranesSound ∧ State.reset.Open

/-- R167, R168: the bytes of a frame arriving one after another at a port in HUNT, each a RECEIVE_BYTE in the queue, come to
exactly the command that the frame is, on the state with the queue's rest. That the last byte runs the command in the same step is
notes/assumptions/12. -/
def Obligations.ReceivedFrameRunsItsCommand : Prop :=
  ∀ (p : Port) (f : Frame) (s : State) (rest : List Instr), f.body.length ≤ 252 → s.receivers.get p = .hunt →
    Host.Core.run Sys2Proof.core f.bytes.length { s with pending := f.bytes.map (.receiveByte p) ++ rest } =
      exec (frameCommand p f) { s with pending := rest }

/-- R48, R136, R169: the frame a well-formed command arrives in reads back as that command, with every operand. -/
def Obligations.FrameOfCommandReadsBack : Prop :=
  ∀ (i : Instr) (p : Port) (f : Frame), i.wf = true → commandFrame i = some (p, f) → frameCommand p f = i

/-! ## Resets -/

/-- Power-on and the reset pin bring every block to its reset values and the host link to its own, with its transmitter idle, its
silence timer stopped, RESTART marked and the rate of the straps; the reset state is that of a power-on. That the straps come as
the command's operand and that pin levels and waiting commands stay is notes/assumptions/9; the levels and rate of State.reset are
notes/assumptions/4. -/
def Obligations.PowerOnAndResetPin : Prop :=
  (∀ (straps : LinkRate) (s : State), ∃ t, exec (.powerOn straps) s = .next t ∧ t.BlocksAtReset ∧
    t.link.AtReset .powerOn straps ∧ t.pending = s.pending ∧ ∀ i, (t.line i).input = (s.line i).input) ∧
  (∀ (straps : LinkRate) (s : State), ∃ t, exec (.resetPin straps) s = .next t ∧ t.BlocksAtReset ∧
    t.link.AtReset .resetPin straps ∧ t.pending = s.pending ∧ ∀ i, (t.line i).input = (s.line i).input) ∧
  State.reset.BlocksAtReset ∧ State.reset.link.AtReset .powerOn State.reset.link.rate

/-- R166: HALL_RESET in a quiet hall with no open order brings every block to its reset values. The link keeps statistics, mask,
sequence, rate, replies and the frame being sent; RESTART alone is pending. In any other hall it is refused with NOT_QUIET. That
the silence timer stops and the host is not silent is notes/assumptions/10; that the record of messages sent stays is
notes/assumptions/8. -/
def Obligations.HallReset : Prop :=
  ∀ (tag : Byte) (s : State), s.Open →
    (s.quiet = true → s.dispatcher.orders = [] → ∃ t, exec (.hallReset tag []) s = .next t ∧ t.BlocksAtReset ∧
      t.link.replies = s.link.replies ++ [reply 0x16 tag .ok []] ∧
      t.link.stats = { s.link.stats with good := bump s.link.stats.good } ∧
      t.link.master = s.link.master ∧ t.link.sequence = s.link.sequence ∧ t.link.rate = s.link.rate ∧
      t.link.sending = s.link.sending ∧ t.link.silenceTimer = none ∧ t.link.silent = false ∧ t.link.restart = .hallReset ∧
      (∀ k : NoticeClass, t.notice k =
        { pending := decide (k = .restart), count := if k = .restart then 1 else 0, enabled := (s.notice k).enabled }) ∧
      t.sent = s.sent ∧ t.pending = s.pending ∧ ∀ i, (t.line i).input = (s.line i).input) ∧
    (s.quiet = false ∨ s.dispatcher.orders ≠ [] →
      exec (.hallReset tag []) s = .next (s.answered (reply 0x16 tag .notQuiet [])))

/-! ## The host link -/

/-- R169, R170: with four replies in the queue no request is acted on: its frame is taken and one overrun is counted. -/
def Obligations.OverrunDiscardsTheRequest : Prop :=
  ∀ (i : Instr) (f : Frame) (s : State), commandFrame i = some (.host, f) → 4 ≤ s.link.replies.length →
    exec i s = .next { s.taken with link := { s.taken.link with
      stats := { s.taken.link.stats with overruns := bump s.link.stats.overruns } } }

/-- R169: a request whose body has not the length of its type's fields is answered BAD_LENGTH and does nothing else. That
an ORDER_SUBMIT of a wrong length does not raise the counter of orders refused is the model's choice (notes/assumptions/36). -/
def Obligations.WrongLengthIsRefused : Prop :=
  ∀ (i : Instr) (f : Frame) (s : State), i.wf = true → commandFrame i = some (.host, f) → f.typ.toNat ∈ requestTypes →
    requestLengthFits f = false → s.Open → exec i s = .next (s.answered (reply f.typ f.tag .badLength []))

/-- R169: a request whose one number lies outside the range its rule gives is answered BAD_FIELD and does nothing else. -/
def Obligations.NumberOutOfRangeIsRefused : Prop :=
  ∀ (i : Instr) (f : Frame) (s : State) (n : Byte) (lo hi : Nat), i.wf = true → commandFrame i = some (.host, f) →
    (f.typ.toNat, lo, hi) ∈ numberRequests → f.body = [n] → (n.toNat < lo ∨ hi < n.toNat) → s.Open →
      exec i s = .next (s.answered (reply f.typ f.tag .badField []))

/-- R169: a frame of a type outside the table is answered with type 0xFF, its tag, BAD_TYPE (2) and its type. -/
def Obligations.UnknownTypeIsAnswered : Prop :=
  ∀ (typ tag : Byte) (body : List Byte) (s : State), s.HasReplyRoom →
    exec (.unknownTypeRequest typ tag body) s = .next (s.answered { typ := 0xFF, tag, body := [2, typ] })

/-- The fourteen status requests: each is answered from the state that has taken its frame (notes/assumptions/13), and changes
nothing else. The bytes of the replies rest on notes/assumptions/3, 39 to 48, 59, 60, 64, 67 and 68. -/
def Obligations.StatusRequestsOnlyRead : Prop :=
  ∀ (i : Instr) (f : Frame) (s : State), s.Open → s.taken.statusReply i = some f → exec i s = .next (s.answered f)

/-- R173: NOTICE_MASK replaces the whole mask and leaves every flag and count; n is its set of classes as a bitmap. -/
def Obligations.NoticeMaskReplacesTheMask : Prop :=
  ∀ (tag : Byte) (master : Bool) (n : Nat) (s : State), s.Open → n < 2 ^ 18 →
    ∃ t, exec (.noticeMask tag (flag master ++ toBytes 3 n)) s = .next t ∧
      t.link = { (s.answered (reply 0x03 tag .ok [])).link with master := master, notices := t.link.notices } ∧
      (∀ k : NoticeClass, t.notice k = { s.notice k with enabled := n.testBit k.index.val }) ∧
      t.receivers = s.taken.receivers ∧ s.ChangesOnly [.link, .notices, .receivers] t

/-- R172: NOTICE_CLEAR clears flag and count of each class named, with the changed-bay set, the expired set or the last-ended
fields that the class carries; n is its set of classes as a bitmap. -/
def Obligations.NoticeClearClearsTheClasses : Prop :=
  ∀ (tag : Byte) (n : Nat) (s : State), s.Open → n < 2 ^ 18 →
    ∃ t, exec (.noticeClear tag (toBytes 3 n)) s = .next t ∧ s.Replied t (reply 0x04 tag .ok []) ∧
      (∀ k : NoticeClass, t.notice k =
        if n.testBit k.index.val then { s.notice k with pending := false, count := 0 } else s.notice k) ∧
      t.bayTable = { s.bayTable with changed := if n.testBit 13 then [] else s.bayTable.changed } ∧
      t.remnants = { s.remnants with expired := if n.testBit 16 then [] else s.remnants.expired } ∧
      t.crane .c1 = { s.crane .c1 with lastEnded := if n.testBit 10 then none else (s.crane .c1).lastEnded } ∧
      t.crane .c2 = { s.crane .c2 with lastEnded := if n.testBit 11 then none else (s.crane .c2).lastEnded } ∧
      s.ChangesOnly [.link, .notices, .receivers, .bays, .remnants, .cranes] t

/-- R168: a receiver in HUNT waits for 0xA5 and then collects; a byte short of the frame's end is kept. The byte that completes a
bad length, a last CRC byte that does not match and a gap abandon the frame: it is counted on the host link only and its receiver
returns to HUNT; after a length error the hunt resumes at the first length byte. No reply is made. That an abandoned frame acts
whatever its receiver holds, and that a gap in HUNT does nothing, is notes/assumptions/11. -/
def Obligations.ReceiversCollectAndAbandonFrames : Prop :=
  let lengthError (n : LinkStats) : LinkStats := { n with lengthErrors := bump n.lengthErrors }
  let crcError (n : LinkStats) : LinkStats := { n with crcErrors := bump n.crcErrors }
  let silence (n : LinkStats) : LinkStats := { n with silences := bump n.silences }
  (∀ (p : Port) (b : Byte) (s : State), s.receivers.get p = .hunt → exec (.receiveByte p b) s =
    .next (if b = 0xA5 then { s with receivers := s.receivers.set p (.frame []) } else s)) ∧
  (∀ (p : Port) (got : List Byte) (b : Byte) (s : State), s.receivers.get p = .frame got →
    (got = [] ∨ 2 ≤ got.length ∧ got.length + 1 < ofBytes (got.take 2) + 4) →
    exec (.receiveByte p b) s = .next { s with receivers := s.receivers.set p (.frame (got ++ [b])) }) ∧
  (∀ (p : Port) (lo hi : Byte) (s : State), s.receivers.get p = .frame [lo] →
    (2 ≤ lo.toNat + 256 * hi.toNat ∧ lo.toNat + 256 * hi.toNat ≤ 254 →
      exec (.receiveByte p hi) s = .next { s with receivers := s.receivers.set p (.frame [lo, hi]) }) ∧
    (lo.toNat + 256 * hi.toNat < 2 ∨ 254 < lo.toNat + 256 * hi.toNat →
      ∃ t, exec (.receiveByte p hi) s = .next t ∧ s.Abandons t p (afterBadLength lo hi) lengthError)) ∧
  (∀ (p : Port) (covered : List Byte) (lo hi : Byte) (s : State), s.receivers.get p = .frame (covered ++ [lo]) →
    2 ≤ covered.length → covered.length + 2 = ofBytes (covered.take 2) + 4 → [lo, hi] ≠ toBytes 2 (crc covered).toNat →
    ∃ t, exec (.receiveByte p hi) s = .next t ∧ s.Abandons t p .hunt crcError) ∧
  (∀ (p : Port) (lo hi : Byte) (s : State), ∃ t, exec (.invalidFrame p (.badLength lo hi)) s = .next t ∧
    s.Abandons t p (afterBadLength lo hi) lengthError) ∧
  (∀ (p : Port) (s : State), ∃ t, exec (.invalidFrame p .badCrc) s = .next t ∧ s.Abandons t p .hunt crcError) ∧
  (∀ (p : Port) (got : List Byte) (s : State), s.receivers.get p = .frame got → ∃ t,
    exec (.frameGapTimeout p) s = .next t ∧ s.Abandons t p .hunt silence) ∧
  (∀ (p : Port) (s : State), s.receivers.get p = .hunt → exec (.frameGapTimeout p) s = .next s)

/-- R174: an idle transmitter sends the oldest reply; without one, the notice of the highest-priority class that is pending and
enabled, whose tag is the notice sequence and which clears the class with what it carries; a frame once begun is sent whole. The
bytes of the notices' values are the model's choice where they rest on notes/assumptions/40, 41, 44, 48, 58, 59 and 60. -/
def Obligations.TransmitterSendsRepliesFirst : Prop :=
  (∀ (f : Frame) (rest : List Frame) (s : State), s.link.sending = none → s.link.replies = f :: rest →
    exec .sendReply s = .next { s with
      link := { s.link with replies := rest, sending := some f }, sent := s.sent ++ [.host f] } ∧
    exec .sendNotice s = .next s) ∧
  (∀ (k : NoticeClass) (s : State), s.link.sending = none → s.link.replies = [] → s.link.master = true →
    (s.notice k).pending = true → (s.notice k).enabled = true →
    (∀ q : NoticeClass, q.index < k.index → (s.notice q).pending = false ∨ (s.notice q).enabled = false) →
    ∃ t f, exec .sendNotice s = .next t ∧ t.link.sending = some f ∧ t.sent = s.sent ++ [.host f] ∧
      f.typ = 0x80 ∧ f.tag = s.link.sequence ∧
      f.body = [BitVec.ofNat 8 (k.index.val + 1), BitVec.ofNat 8 (s.notice k).count] ++ s.noticeValues k ∧
      t.link = { s.link with sending := some f, sequence := s.link.sequence + 1, notices := t.link.notices } ∧
      (∀ q : NoticeClass, t.notice q = if q = k then { s.notice k with pending := false, count := 0 } else s.notice q) ∧
      t.bayTable = { s.bayTable with changed := if k = .bay then [] else s.bayTable.changed } ∧
      t.remnants = { s.remnants with expired := if k = .remnant then [] else s.remnants.expired } ∧
      (∀ c, t.crane c = { s.crane c with lastEnded := if k = .crane c then none else (s.crane c).lastEnded }) ∧
      s.ChangesOnly [.link, .notices, .bays, .remnants, .cranes, .sent] t) ∧
  (∀ (f : Frame) (s : State), s.link.sending = some f → exec .sendReply s = .next s ∧ exec .sendNotice s = .next s ∧
    exec .transmitFrameEnd s = .next { s with link := { s.link with sending := none } }) ∧
  (∀ s : State, s.link.replies = [] → exec .sendReply s = .next s) ∧
  (∀ s : State, s.link.master = false → exec .sendNotice s = .next s)

/-- R160: the silence timer expires: the host is silent, and a hall in PURGE or RUN pauses with cause LINK_SILENCE: its purge timer
is abandoned, its purged flag kept and the gate's hall cause becomes PAUSE. Runs and cranes go on. In PARK and PAUSE the hall is
unchanged. -/
def Obligations.LinkSilencePausesTheHall : Prop :=
  ∀ s : State, s.link.silenceTimer ≠ none → s.Settled → ∃ t, exec .linkSilence s = .next t ∧
    t.link = { s.link with silenceTimer := none, silent := true, notices := t.link.notices } ∧
    (s.hall.state = .purge ∨ s.hall.state = .run →
      t.hall = { s.hall with state := .pause, cause := .linkSilence, purgeTimer := none } ∧
      t.budget = { s.budget with
        causes := { s.budget.causes with hall := some .pause }, gateClosings := t.budget.gateClosings } ∧
      (t.notice .hall).pending = true ∧ s.ChangesOnly [.link, .notices, .hall, .budget] t) ∧
    (s.hall.state = .park ∨ s.hall.state = .pause → t.link.notices = s.link.notices ∧ s.ChangesOnly [.link] t)

/-! ## Hall and field lines -/

/-- R159: HALL_WAKE in PARK enters PURGE with cause HOST: the purge timer starts with the purge time, and the gate's hall cause
PARK gives way to PURGE. Channels, monitors, bays and lines are not touched. Elsewhere it is refused with WRONG_STATE, under an
active hall stop with STOP_LINE_ACTIVE. -/
def Obligations.HallWakeStartsThePurge : Prop :=
  ∀ (tag : Byte) (s : State), s.Open →
    (s.hall.state = .park → s.hallStopActive = false → ∃ t, exec (.hallWake tag []) s = .next t ∧
      s.Replied t (reply 0x15 tag .ok []) ∧
      t.hall = { s.hall with state := .purge, cause := .host, purgeTimer := some (s.hall.purgeTime * 1000) } ∧
      t.budget = { s.budget with
        causes := { s.budget.causes with hall := some .purge }, gateClosings := t.budget.gateClosings } ∧
      (t.notice .hall).pending = true ∧
      s.ChangesOnly [.link, .notices, .receivers, .hall, .budget, .dispatcher, .cranes, .sent] t) ∧
    (s.hall.state ≠ .park → exec (.hallWake tag []) s = .next (s.answered (reply 0x15 tag .wrongState []))) ∧
    (s.hall.state = .park → s.hallStopActive = true →
      exec (.hallWake tag []) s = .next (s.answered (reply 0x15 tag .stopLineActive [])))

/-- R162: HALL_RUN in PAUSE enters RUN where the purged flag is set and removes the gate's hall cause, else PURGE with the full
purge time; the cause is HOST. Bays, lines, heats and remnants are not touched. Elsewhere it is refused. -/
def Obligations.HallRunLeavesPause : Prop :=
  ∀ (tag : Byte) (s : State), s.Open →
    (s.hall.state = .pause → s.hallStopActive = false → ∃ t, exec (.hallRun tag []) s = .next t ∧
      s.Replied t (reply 0x12 tag .ok []) ∧
      (s.hall.purged = true → t.hall = { s.hall with state := .run, cause := .host, purgeTimer := none } ∧
        t.budget.causes.hall = none) ∧
      (s.hall.purged = false →
        t.hall = { s.hall with state := .purge, cause := .host, purgeTimer := some (s.hall.purgeTime * 1000) } ∧
        t.budget.causes.hall = some .purge) ∧
      (t.notice .hall).pending = true ∧
      s.ChangesOnly [.link, .notices, .receivers, .hall, .budget, .channels, .monitors, .dispatcher, .cranes, .sent] t) ∧
    (s.hall.state ≠ .pause → exec (.hallRun tag []) s = .next (s.answered (reply 0x12 tag .wrongState []))) ∧
    (s.hall.state = .pause → s.hallStopActive = true →
      exec (.hallRun tag []) s = .next (s.answered (reply 0x12 tag .stopLineActive [])))

/-- R160: HALL_PAUSE in PURGE or RUN enters PAUSE with cause HOST: the purge timer is abandoned, the purged flag kept, the gate's
hall cause becomes PAUSE. Runs, arcs and cranes go on. In PARK and PAUSE it is refused with WRONG_STATE. -/
def Obligations.HallPauseKeepsTheRuns : Prop :=
  ∀ (tag : Byte) (s : State), s.Open →
    (s.hall.state = .purge ∨ s.hall.state = .run → ∃ t, exec (.hallPause tag []) s = .next t ∧
      s.Replied t (reply 0x13 tag .ok []) ∧
      t.hall = { s.hall with state := .pause, cause := .host, purgeTimer := none } ∧
      t.budget = { s.budget with
        causes := { s.budget.causes with hall := some .pause }, gateClosings := t.budget.gateClosings } ∧
      (t.notice .hall).pending = true ∧ s.ChangesOnly [.link, .notices, .receivers, .hall, .budget] t) ∧
    (s.hall.state = .park ∨ s.hall.state = .pause →
      exec (.hallPause tag []) s = .next (s.answered (reply 0x13 tag .wrongState [])))

/-- R163: HALL_PARK in a quiet hall enters PARK with cause HOST: the purge timer is abandoned, the purged flag cleared, the gate's
hall cause becomes PARK, and every IDLE or YIELDING crane is sent to its park position: TRAVEL with purpose PARK and a GOTO to its
target. Orders and claims stay. In PARK it is refused with WRONG_STATE, in a hall that is not quiet with NOT_QUIET. -/
def Obligations.HallParkNeedsAQuietHall : Prop :=
  ∀ (tag : Byte) (s : State), s.Open →
    let quiet := (∀ g, (s.channel g).state = .idle) ∧ ∀ c, (s.crane c).order = none ∧ (s.crane c).state ≠ .stranded
    (s.hall.state ≠ .park → quiet → ∃ t, exec (.hallPark tag []) s = .next t ∧
      s.Replied t (reply 0x14 tag .ok []) ∧
      t.hall = { s.hall with state := .park, cause := .host, purgeTimer := none, purged := false } ∧
      t.budget = { s.budget with
        causes := { s.budget.causes with hall := some .park }, gateClosings := t.budget.gateClosings } ∧
      (∀ c, (s.crane c).state = .idle ∨ (s.crane c).state = .yielding →
        (t.crane c).state = .travel ∧ (t.crane c).goal = some ⟨s.settings.park.get c, .park⟩ ∧
        ∃ p, (t.crane c).target = some p ∧ .crane c (.goto p) ∈ t.sent.drop s.sent.length) ∧
      (t.notice .hall).pending = true ∧
      s.ChangesOnly [.link, .notices, .receivers, .hall, .budget, .cranes, .sent] t) ∧
    (s.hall.state = .park → exec (.hallPark tag []) s = .next (s.answered (reply 0x14 tag .wrongState []))) ∧
    (s.hall.state ≠ .park → ¬ quiet →
      exec (.hallPark tag []) s = .next (s.answered (reply 0x14 tag .notQuiet [])))

/-- R164: HALL_SET replaces the three times. A running purge timer keeps its time, the silence timer restarts, and the summary
timer starts again where its period changes. At each expiry of the summary timer SUMMARY is marked and the timer starts again; that
a stopped one does not expire is notes/assumptions/15. -/
def Obligations.HallSetReplacesTheTimes : Prop :=
  (∀ (tag : Byte) (purge silence summary : Nat) (s : State), s.Open → 5 ≤ purge ∧ purge ≤ 120 → silence ≤ 60 → summary ≤ 60 →
    exec (.hallSet tag (u8 purge ++ u8 silence ++ u8 summary)) s = .next { s.answered (reply 0x17 tag .ok []) with
      hall := { s.hall with
        purgeTime := purge
        silenceTime := silence
        summaryPeriod := summary
        summaryTimer :=
          if summary = s.hall.summaryPeriod then s.hall.summaryTimer
          else if summary = 0 then none else some (summary * 1000) }
      link := { (s.answered (reply 0x17 tag .ok [])).link with
        silenceTimer := if silence = 0 then none else some (silence * 1000) } }) ∧
  (∀ (tag purge silence summary : Byte) (s : State), s.Open →
    (purge.toNat < 5 ∨ 120 < purge.toNat ∨ 60 < silence.toNat ∨ 60 < summary.toNat) →
    exec (.hallSet tag [purge, silence, summary]) s = .next (s.answered (reply 0x17 tag .badField []))) ∧
  (∀ (left : Nat) (s : State), s.hall.summaryTimer = some left →
    exec .summaryTimerExpiry s = .next
      { s.mark .summary with hall := { s.hall with summaryTimer := some (s.hall.summaryPeriod * 1000) } }) ∧
  (∀ s : State, s.hall.summaryTimer = none → exec .summaryTimerExpiry s = .next s)

/-- R159, R160: the purge timer expires: RUN with cause PURGE_DONE, the purged flag set, the gate's hall cause removed; while the
host is silent the hall enters PAUSE with cause LINK_SILENCE at once (notes/assumptions/17). Bays, lines, heats and remnants are
not touched. A stopped purge timer does not expire (notes/assumptions/15). -/
def Obligations.PurgeTimerOpensTheHall : Prop :=
  (∀ (left : Nat) (s : State), s.Settled → s.hall.state = .purge → s.hall.purgeTimer = some left → s.link.silent = false →
    ∃ t, exec .purgeTimerExpiry s = .next t ∧
      t.hall = { s.hall with state := .run, cause := .purgeDone, purged := true, purgeTimer := none } ∧
      t.budget.causes.hall = none ∧ (t.notice .hall).pending = true ∧
      s.ChangesOnly [.notices, .hall, .budget, .channels, .monitors, .dispatcher, .cranes, .sent] t) ∧
  (∀ (left : Nat) (s : State), s.Settled → s.hall.state = .purge → s.hall.purgeTimer = some left → s.link.silent = true →
    ∃ t, exec .purgeTimerExpiry s = .next t ∧
      t.hall = { s.hall with state := .pause, cause := .linkSilence, purged := true, purgeTimer := none } ∧
      t.budget.causes.hall = some .pause ∧ (t.notice .hall).pending = true ∧
      s.ChangesOnly [.notices, .hall, .budget, .channels, .monitors, .dispatcher, .cranes, .sent] t) ∧
  (∀ s : State, s.hall.purgeTimer = none → exec .purgeTimerExpiry s = .next s)

/-- R156: LINE_SET replaces function, active level, filter time and latch edge, keeps the filtered level, clears the latch where
function or level changes, and restarts a running filter timer, with the new time 0 too (notes/assumptions/19). It touches no other
line, and between GENERAL functions of one level nothing else at all. An aggregate that becomes active by the new function or level
acts as R155 gives: GUARD, HALL_STOP, OVERLOAD and WAKE; a guard that becomes inactive lets its cranes set down, and a line that
leaves one active aggregate for another does both, the old one first (notes/assumptions/18; the reentry flag of a held channel is
notes/assumptions/34). Where no aggregate becomes active, no guard inactive and no CHECK waits on the line nothing else happens. A field out of range, or a bay or crane that does not match the function, is refused BAD_FIELD and changes nothing. -/
def Obligations.LineSetReplacesTheRecord : Prop :=
  (∀ (tag line kind bay crane level filter edge : Byte) (s : State), s.Open →
    let inRange := 1 ≤ line.toNat ∧ line.toNat ≤ 16 ∧ kind.toNat ≤ 4 ∧ level.toNat ≤ 1 ∧ filter.toNat ≤ 250 ∧ edge.toNat ≤ 2
    let matched := (if kind = 1 then 1 ≤ bay.toNat ∧ bay.toNat ≤ 8 else bay = 0) ∧
      (if kind = 2 then crane = 1 ∨ crane = 2 else crane = 0)
    ¬ (inRange ∧ matched) →
    exec (.lineSet tag [line, kind, bay, crane, level, filter, edge]) s = .next (s.answered (reply 0x18 tag .badField []))) ∧
  ∀ (tag : Byte) (i : LineIx) (function : LineFunction) (level : Level) (filter : Nat) (edge : LatchEdge) (s : State),
    s.Open → filter ≤ 250 →
    ∃ t, exec (.lineSet tag (u8 (i.val + 1) ++ function.bytes ++ flag (levelHigh level) ++ u8 filter ++ u8 edge.code)) s = .next t ∧
      t.lines = put s.lines i (lineAfterSet (s.line i) function level filter edge) ∧
      s.ChangesOnly (.lines :: .link :: .receivers :: reportFrame) t ∧
      ((s.line i).function = .general → function = .general → (s.line i).activeLevel = level →
        t = { s.answered (reply 0x18 tag .ok []) with lines := t.lines }) ∧
      let rises := s.SetRises i function level
      let falls := s.SetFalls i function level
      let nobodyFreed := ∀ b c, falls (.guard b) → ¬ s.WaitsForGuard c b
      (rises .hallStop → s.WaitsSound → s.HallStopped t) ∧
      (rises .wake → s.hall.state = .park → s.hallStopActive = false → s.link.silent = false → s.WokenByLine t) ∧
      (s.NobodyChecks i →
        ((∀ f, f ≠ .general → ¬ rises f) → (∀ b, ¬ falls (.guard b)) →
          t = { s.answered (reply 0x18 tag .ok []) with lines := t.lines }) ∧
        (∀ b, rises (.guard b) → nobodyFreed → s.NothingToDispatch → s.GuardRises t b) ∧
        (∀ b, falls (.guard b) → (∀ f, f ≠ .general → ¬ rises f) → s.NothingToDispatch → s.GuardFalls t b) ∧
        (∀ b b', falls (.guard b) → rises (.guard b') → s.NothingToDispatch → s.GuardMoves t b b') ∧
        (∀ c, rises (.overload c) → nobodyFreed → s.NothingToDispatch → s.Overloaded t c) ∧
        (∀ b c, falls (.guard b) → rises (.overload c) → s.NothingToDispatch →
          (s.WaitsForGuard c.other b → t.crane c.other = { s.crane c.other with
            state := .hoist, waitCause := none, stopCause := none, hoistTimer := some 120000 }) ∧
          (¬ s.WaitsForGuard c.other b → t.crane c.other = s.crane c.other) ∧
          ((∀ n o, (s.crane c).order = some n → s.order n = some o → o.state ≠ .lifting) → (s.crane c).hook ≠ none →
            (s.crane c).state ≠ .offline → t.crane c = { s.crane c with
              state := .stopped, stopCause := some .overload, waitCause := none, hoistTimer := none })))

/-- R157: LINE_CLEAR clears the latches of the lines named, n being their bitmap, and changes nothing else. -/
def Obligations.LineClearClearsLatches : Prop :=
  ∀ (tag : Byte) (n : Nat) (s : State), s.Open → n < 2 ^ 16 →
    ∃ t, exec (.lineClear tag (toBytes 2 n)) s = .next t ∧
      (∀ i, t.line i = { s.line i with latch := if n.testBit i.val then false else (s.line i).latch }) ∧
      t = { s.answered (reply 0x1A tag .ok []) with lines := t.lines }

/-- R153, R154: an input that leaves the filtered level starts the filter timer, one that returns before the expiry is a glitch,
and the expiry takes the change: the filtered level, the count, and the latch where the edge matches, which marks FIELD. With
filter time 0 the change is taken at once. On a GENERAL line with no CHECK waiting nothing else happens. A change that makes a
guard active holds the channel and halts the crane at its bay, one that makes it inactive lets the cranes set down; the hall stop
ends the runs, stops the cranes and pauses the hall (notes/assumptions/18; the reentry flag of a held channel is
notes/assumptions/34); an overload withdraws the pick or stops the loaded crane; a wake line starts the purge. A stopped filter
timer does not expire (notes/assumptions/15). -/
def Obligations.LineInputIsFiltered : Prop :=
  (∀ (i : LineIx) (level : Level) (s : State), s.Settled → (s.line i).filterTimer = none → level ≠ (s.line i).filtered →
    (s.line i).filterTime ≠ 0 → exec (.lineInputChange i level) s = .next
      (s.modLine i (fun l => { l with input := level, filterTimer := some l.filterTime }))) ∧
  (∀ (i : LineIx) (level : Level) (left : Nat) (s : State), s.Settled → (s.line i).filterTimer = some left →
    level = (s.line i).filtered → exec (.lineInputChange i level) s = .next
      (s.modLine i (fun l => { l with input := level, filterTimer := none, glitches := bump l.glitches }))) ∧
  (∀ (i : LineIx) (left : Nat) (s : State), s.Settled → (s.line i).filterTimer = some left →
    ∃ t, exec (.lineFilterExpiry i) s = .next t ∧ t.lines = put s.lines i (lineAfterChange (s.line i)) ∧
      s.ChangesOnly (.lines :: reportFrame) t ∧
      ((s.line i).function = .general → (∀ g, (s.channel g).state ≠ .waitCheck) →
        t.link.notices = (if (s.line i).edge = .both ∨ ((s.line i).edge = .enter ↔ (s.line i).input = (s.line i).activeLevel)
          then (s.mark .field).link.notices else s.link.notices) ∧
        s.ChangesOnly [.lines, .notices] t)) ∧
  (∀ (i : LineIx) (level : Level) (s : State), s.Settled → (s.line i).filterTimer = none → level ≠ (s.line i).filtered →
    (s.line i).filterTime = 0 → ∃ t, exec (.lineInputChange i level) s = .next t ∧
      t.lines = put s.lines i (lineAfterChange { s.line i with input := level })) ∧
  (∀ (i : LineIx) (left : Nat) (s : State), s.Settled → (s.line i).filterTimer = some left →
    s.AloneIn i (s.line i).function → s.NobodyChecks i →
    let becomesActive := (s.line i).filtered ≠ (s.line i).activeLevel ∧ (s.line i).input = (s.line i).activeLevel
    let becomesInactive := (s.line i).filtered = (s.line i).activeLevel ∧ (s.line i).input ≠ (s.line i).activeLevel
    ∃ t, exec (.lineFilterExpiry i) s = .next t ∧
      (∀ b, (s.line i).function = .guard b → s.NothingToDispatch →
        (becomesActive → s.GuardRises t b) ∧ (becomesInactive → s.GuardFalls t b)) ∧
      ((s.line i).function = .hallStop → becomesActive → s.WaitsSound → s.HallStopped t) ∧
      (∀ c, (s.line i).function = .overload c → becomesActive → s.NothingToDispatch → s.Overloaded t c) ∧
      ((s.line i).function = .wake → becomesActive → s.hall.state = .park → s.hallStopActive = false → s.link.silent = false →
        s.WokenByLine t)) ∧
  (∀ (i : LineIx) (s : State), (s.line i).filterTimer = none → exec (.lineFilterExpiry i) s = .next s)

/-! ## Bay table -/

/-- R13: BAY_DECLARE puts a plate of a heat in use, ACTIVE or CLOSED, into an EMPTY bay: PLACED, UNCHECKED, with the heat's grade,
one reference more and the bay reported. A field out of range is refused BAD_FIELD, a free heat UNKNOWN_HEAT, a claimed bay
BAY_CLAIMED, any other bay WRONG_STATE. -/
def Obligations.BayDeclarePlacesAPlate : Prop :=
  (∀ (tag : Byte) (n h thickness width length : Nat) (s : State), s.Open →
    n < 256 → h < 256 → thickness < 256 → width < 65536 → length < 65536 →
    ¬ (1 ≤ n ∧ n ≤ 8 ∧ h ≤ 31 ∧ 3 ≤ thickness ∧ thickness ≤ 150 ∧ 500 ≤ width ∧ width ≤ 4000 ∧ 1000 ≤ length ∧ length ≤ 16000) →
    exec (.bayDeclare tag (u8 n ++ u8 h ++ u8 thickness ++ u16 width ++ u16 length)) s =
      .next (s.answered (reply 0x22 tag .badField []))) ∧
  ∀ (tag : Byte) (b : BayIx) (h : HeatIx) (thickness width length : Nat) (s : State), s.Open →
    3 ≤ thickness ∧ thickness ≤ 150 → 500 ≤ width ∧ width ≤ 4000 → 1000 ≤ length ∧ length ≤ 16000 →
    let command := Instr.bayDeclare tag (u8 (b.val + 1) ++ u8 h.val ++ u8 thickness ++ u16 width ++ u16 length)
    (∀ e, s.heat h = some e → (s.bay b).state = .empty →
      exec command s = .next { (s.answered (reply 0x22 tag .ok [])).mark .bay with
        bayTable := { s.bayTable with
          bays := put s.bayTable.bays b { s.bay b with
            state := .placed, claim := none, lastDeclared := none, history := [], comparePending := false, outcome := .none,
            plate := some { heat := h, grade := e.grade, thickness, width, length, remnant := none, identity := .unchecked } }
          changed := insertAsc b s.bayTable.changed }
        composer := { s.composer with heats := put s.composer.heats h (some { e with refs := e.refs + 1 }) } }) ∧
    (s.heat h = none → exec command s = .next (s.answered (reply 0x22 tag .unknownHeat []))) ∧
    (s.heat h ≠ none → (s.bay b).state = .loading ∨ (s.bay b).state = .unloading →
      exec command s = .next (s.answered (reply 0x22 tag .bayClaimed []))) ∧
    (s.heat h ≠ none → (s.bay b).state ≠ .empty → (s.bay b).state ≠ .loading → (s.bay b).state ≠ .unloading →
      exec command s = .next (s.answered (reply 0x22 tag .wrongState [])))

/-- R14, R15: BAY_ACCEPT makes a PLACED or MISMATCH bay READY with identity ACCEPTED; BAY_CLEAR makes a PLACED, READY, MISMATCH or
CUT bay EMPTY, drops its plate with its reference and makes a remnant it names VACANT. Both report the bay and refuse elsewhere:
BAY_CLAIMED in LOADING and UNLOADING, else WRONG_STATE. -/
def Obligations.BayAcceptAndBayClear : Prop :=
  (∀ (tag : Byte) (b : BayIx) (s : State), s.Open →
    ((s.bay b).state = .placed ∨ (s.bay b).state = .mismatch →
      exec (.bayAccept tag (u8 (b.val + 1))) s = .next { (s.answered (reply 0x23 tag .ok [])).mark .bay with
        bayTable := { s.bayTable with
          bays := put s.bayTable.bays b { s.bay b with
            state := .ready, plate := (s.bay b).plate.map (fun p => { p with identity := .accepted }) }
          changed := insertAsc b s.bayTable.changed } }) ∧
    ((s.bay b).state = .loading ∨ (s.bay b).state = .unloading →
      exec (.bayAccept tag (u8 (b.val + 1))) s = .next (s.answered (reply 0x23 tag .bayClaimed [])) ∧
      exec (.bayClear tag (u8 (b.val + 1))) s = .next (s.answered (reply 0x24 tag .bayClaimed []))) ∧
    ((s.bay b).state = .empty ∨ (s.bay b).state = .ready ∨ (s.bay b).state = .burning ∨ (s.bay b).state = .cut →
      exec (.bayAccept tag (u8 (b.val + 1))) s = .next (s.answered (reply 0x23 tag .wrongState []))) ∧
    ((s.bay b).state = .empty ∨ (s.bay b).state = .burning →
      exec (.bayClear tag (u8 (b.val + 1))) s = .next (s.answered (reply 0x24 tag .wrongState [])))) ∧
  (∀ (tag : Byte) (b : BayIx) (p : Plate) (s : State), s.Open → (s.bay b).plate = some p →
    ((s.bay b).state = .placed ∨ (s.bay b).state = .ready ∨ (s.bay b).state = .mismatch ∨ (s.bay b).state = .cut) →
    ∃ t, exec (.bayClear tag (u8 (b.val + 1))) s = .next t ∧ s.Replied t (reply 0x24 tag .ok []) ∧
      t.bayTable = { s.bayTable with
        bays := put s.bayTable.bays b { s.bay b with
          state := .empty, plate := none, claim := none, lastDeclared := none, history := [], comparePending := false,
          outcome := .none }
        changed := insertAsc b s.bayTable.changed } ∧
      s.Marked t [.bay] ∧ s.ChangesOnly [.link, .notices, .receivers, .bays, .composer, .remnants] t ∧
      (p.remnant = none → t.remnants = s.remnants ∧
        ∀ h, t.heat h = if h = p.heat then (s.heat h).map (fun e => { e with refs := e.refs - 1 }) else s.heat h) ∧
      (∀ i r, p.remnant = some i → s.remnant i = some r →
        t.remnants = { s.remnants with records := put s.remnants.records i none } ∧
        ∀ h, t.heat h = (s.heat h).map (fun e =>
          { e with refs := e.refs - (if h = p.heat then 1 else 0) - (if h = r.heat then 1 else 0) })))

/-- R3, R22, R61: settings replaced whole. READER_SET takes 4 of 5 and 8 of 10 alone and empties the eight histories; PLACES_SET
needs hall PARK and a layout that meets the layout condition; ARC_SET sets one monitor's parameters or all four, and leaves the
copies of the channels. Nothing else changes; fields out of range are refused BAD_FIELD. -/
def Obligations.SettingsAreReplacedWhole : Prop :=
  (∀ (tag : Byte) (k n : Nat) (s : State), s.Open → k ≤ 255 → n ≤ 255 →
    ((k = 4 ∧ n = 5) ∨ (k = 8 ∧ n = 10) →
      exec (.readerSet tag (u8 k ++ u8 n)) s = .next { s.answered (reply 0x25 tag .ok []) with
        bayTable := { s.bayTable with
          readerK := k, readerN := n, bays := s.bayTable.bays.map (fun b => { b with history := [] }) } }) ∧
    (¬((k = 4 ∧ n = 5) ∨ (k = 8 ∧ n = 10)) →
      exec (.readerSet tag (u8 k ++ u8 n)) s = .next (s.answered (reply 0x25 tag .badField [])))) ∧
  (∀ (tag : Byte) (l : Layout) (s : State), s.Open → ¬ l.InRange → l.runwayEnd < 2 ^ 32 →
    (∀ b, (l.bays.get b).first < 2 ^ 32 ∧ (l.bays.get b).last < 2 ^ 32) → l.intake < 2 ^ 32 → (∀ r, l.racks.get r < 2 ^ 32) →
    l.offload < 2 ^ 32 → exec (.placesSet tag l.body) s = .next (s.answered (reply 0x26 tag .badField []))) ∧
  (∀ (tag : Byte) (l : Layout) (s : State), s.Open → l.InRange →
    (s.hall.state ≠ .park → exec (.placesSet tag l.body) s = .next (s.answered (reply 0x26 tag .wrongState []))) ∧
    (s.hall.state = .park → l.Meets s.settings.margin s.settings.park →
      exec (.placesSet tag l.body) s = .next { s.answered (reply 0x26 tag .ok []) with
        bayTable := { s.bayTable with layout := l } }) ∧
    (s.hall.state = .park → ¬ l.Meets s.settings.margin s.settings.park →
      exec (.placesSet tag l.body) s = .next (s.answered (reply 0x26 tag .badField [])))) ∧
  (∀ (tag : Byte) (selector : Nat) (p : ArcParams) (s : State), s.Open → selector < 256 → p.band < 65536 →
    p.stableCount < 256 → p.window < 256 → p.lossCount < 256 → p.strikeTimeout < 65536 → p.strikeRetries < 256 →
    let command := Instr.arcSet tag (u8 selector ++ u16 p.band ++ u8 p.stableCount ++ u8 p.window ++ u8 p.lossCount ++
      u16 p.strikeTimeout ++ u8 p.strikeRetries)
    let inRange := selector ≤ 4 ∧ 10 ≤ p.band ∧ p.band ≤ 500 ∧ 16 ≤ p.stableCount ∧ 16 ≤ p.window ∧ p.window ≤ 64 ∧
      1 ≤ p.lossCount ∧ p.lossCount ≤ p.window ∧ 500 ≤ p.strikeTimeout ∧ p.strikeTimeout ≤ 5000 ∧ p.strikeRetries ≤ 3
    (¬ inRange → exec command s = .next (s.answered (reply 0x38 tag .badField []))) ∧
    (inRange → ∃ t, exec command s = .next t ∧ t = { s.answered (reply 0x38 tag .ok []) with monitors := t.monitors } ∧
      ∀ g, t.monitor g = if selector = 0 ∨ selector = g.val + 1 then { s.monitor g with params := p } else s.monitor g))

/-- R18, R19, R20: a READ for a bay that is not the gantry's is misdirected; one for an EMPTY or LOADING bay is discarded; any
other joins the history, which keeps the newest n. A code that makes up k of them and is not the one declared last is declared: the
bay is reported, and compares the code with its heat's where it is PLACED, READY or MISMATCH, else defers it. -/
def Obligations.GantryReadDeclaresTheCode : Prop :=
  (∀ (g : Gantry) (n : Byte) (chars : List Byte) (s : State), n.toNat ≠ 2 * g.val + 1 → n.toNat ≠ 2 * g.val + 2 →
    exec (.gantryRead g n chars) s = .next { s.gantryFrameTaken g with
      bayTable := { s.bayTable with misdirected := bump s.bayTable.misdirected } }) ∧
  (∀ (b : BayIx) (chars : List Byte) (s : State),
    ((s.bay b).state = .empty ∨ (s.bay b).state = .loading →
      exec (.gantryRead (gantryOfBay b) (BitVec.ofNat 8 (b.val + 1)) chars) s = .next { s.gantryFrameTaken (gantryOfBay b) with
        bayTable := { s.bayTable with
          bays := put s.bayTable.bays b { s.bay b with readsDiscarded := bump (s.bay b).readsDiscarded } } }) ∧
    ((s.bay b).state ≠ .empty → (s.bay b).state ≠ .loading →
      let r := if chars.all isCodeChar then Read.code chars else Read.unreadable
      let history := (s.bay b).history.drop ((s.bay b).history.length + 1 - s.bayTable.readerN) ++ [r]
      let stored := { s.bay b with history, readsStored := bump (s.bay b).readsStored }
      let declares := r = .code chars ∧ s.bayTable.readerK ≤ history.count r ∧ (s.bay b).lastDeclared ≠ some chars
      (¬ declares →
        exec (.gantryRead (gantryOfBay b) (BitVec.ofNat 8 (b.val + 1)) chars) s =
          .next { s.gantryFrameTaken (gantryOfBay b) with bayTable := { s.bayTable with bays := put s.bayTable.bays b stored } }) ∧
      (declares → ∃ t, exec (.gantryRead (gantryOfBay b) (BitVec.ofNat 8 (b.val + 1)) chars) s = .next t ∧
        t = { (s.gantryFrameTaken (gantryOfBay b)).mark .bay with bayTable := t.bayTable } ∧
        t.bayTable = { s.bayTable with
          bays := put s.bayTable.bays b (t.bay b), changed := insertAsc b s.bayTable.changed } ∧
        ((s.bay b).state = .placed ∨ (s.bay b).state = .ready ∨ (s.bay b).state = .mismatch →
          ∀ p e, (s.bay b).plate = some p → s.heat p.heat = some e →
            t.bay b = { stored with
              declarations := bump (s.bay b).declarations
              lastDeclared := some chars
              state := if chars = e.code then .ready else .mismatch
              plate := some { p with identity := if chars = e.code then .matched else .mismatched } }) ∧
        ((s.bay b).state = .burning ∨ (s.bay b).state = .cut ∨ (s.bay b).state = .unloading →
          t.bay b = { stored with
            declarations := bump (s.bay b).declarations, lastDeclared := some chars, comparePending := true }))))

/-! ## Burn channels -/

/-- R25, R26, R27, R28, R38: STEPS appends its steps or refuses them whole; a channel that does not consume keeps all else, and a
STARVED channel goes on with them. The free space replied is that at the acceptance (notes/assumptions/37). A channel, a count or a
field of a step out of range is refused BAD_FIELD and changes nothing. FLUSH empties the buffer of an IDLE channel only. -/
def Obligations.StepsJoinTheBuffer : Prop :=
  (∀ (tag : Byte) (g : Gantry) (steps : List Step) (s : State), s.Open → 1 ≤ steps.length ∧ steps.length ≤ 12 →
    (∀ p ∈ steps, p.Fits) → (∃ p ∈ steps, ¬ p.InRange) →
    exec (.steps tag (stepsRequestBody g steps)) s = .next (s.answered (reply 0x31 tag .badField []))) ∧
  (∀ (tag n count : Byte) (records : List Byte) (s : State), s.Open → records.length = 16 * count.toNat →
    n.toNat < 1 ∨ 4 < n.toNat ∨ count.toNat < 1 ∨ 12 < count.toNat ∨
      (∃ i, i < count.toNat ∧ (records.getD (16 * i) 0).toNat ∉ stepKinds) →
    exec (.steps tag (n :: count :: records)) s = .next (s.answered (reply 0x31 tag .badField []))) ∧
  (∀ (tag : Byte) (g : Gantry) (steps : List Step) (s : State), s.Open → (∀ p ∈ steps, p.InRange) →
    1 ≤ steps.length ∧ steps.length ≤ 12 → (s.channel g).buffer.length ≤ 48 →
    let command := Instr.steps tag (stepsRequestBody g steps)
    let fits := ∀ current setpoint dwell, Step.pierce current setpoint dwell ∈ steps →
      (current * s.budget.surge + 99) / 100 ≤ s.budget.limit
    (¬ fits → exec command s = .next (s.answered (reply 0x31 tag .stepExceedsLimit []))) ∧
    (fits → 48 < (s.channel g).buffer.length + steps.length →
      exec command s = .next ((s.answered (reply 0x31 tag .bufferFull [])).modChannel g (fun c =>
        { c with bufferFull := bump c.bufferFull }))) ∧
    (fits → (s.channel g).buffer.length + steps.length ≤ 48 →
      (s.channel g).state ≠ .starved →
      ((s.channel g).state = .running → (s.channel g).inProgress ≠ .none) →
      exec command s = .next ((s.answered (reply 0x31 tag .ok
        (u8 (48 - (s.channel g).buffer.length - steps.length)))).modChannel g (fun c =>
          { c with buffer := c.buffer ++ steps })))) ∧
  (∀ (tag : Byte) (g : Gantry) (x y feed : Nat) (s : State), s.Open → x ≤ 160000 → y ≤ 45000 → feed ≤ 40000 →
    (s.channel g).state = .starved → (s.channel g).buffer = [] → (s.channel g).inProgress = .none →
    (s.channel g).window.length < 3 → (s.monitor g).arc = .dark →
    ∃ t, exec (.steps tag (stepsRequestBody g [.travel x y feed])) s = .next t ∧
      s.Replied t (reply 0x31 tag .ok (u8 47)) ∧
      t.sent = s.sent ++ [.gantry g (.move (s.channel g).nextSeq .travel x y feed none none)] ∧
      t.channels = put s.channels g { s.channel g with
        window := (s.channel g).window ++ [⟨(s.channel g).nextSeq, .motion (.travel x y feed), (s.channel g).path, none⟩]
        nextSeq := (s.channel g).nextSeq + 1
        path := some ⟨x, y⟩
        reentry := false } ∧
      s.Marked t [.channelEvent g] ∧ s.ChangesOnly [.link, .notices, .receivers, .channels, .sent] t) ∧
  (∀ (tag : Byte) (g : Gantry) (s : State), s.Open →
    exec (.flush tag (u8 (g.val + 1))) s = .next
      (if (s.channel g).state = .idle then
        (s.answered (reply 0x36 tag .ok [])).modChannel g (fun c => { c with buffer := [] })
      else s.answered (reply 0x36 tag .wrongState [])))

/-- R11, R28, R29, R30, R31, R38, R40, R66: START on a READY bay of an IDLE channel, in RUN or PURGE, with a healthy gantry and no
load overhead: the bay becomes BURNING and the channel takes its run values with a copy of the arc parameters. Under an active
guard it enters HELD(GUARD), with an empty buffer it starves; else it goes on with the buffer: a TRAVEL at the head is sent as a
MOVE and enters the window, a PIERCE there asks for its booking, which is admitted at once or waits. Otherwise START is refused, by
its first failure. -/
def Obligations.StartBeginsARun : Prop :=
  ∀ (tag : Byte) (g : Gantry) (b : BayIx) (s : State), s.Open →
    let command := Instr.start tag (u8 (g.val + 1) ++ u8 (b.val + 1))
    let may := (s.channel g).state = .idle ∧ (s.hall.state = .run ∨ s.hall.state = .purge) ∧
      (s.channel g).gantryTimer ≠ none ∧ (s.channel g).gantryCode = 0
    (gantryOfBay b ≠ g → exec command s = .next (s.answered (reply 0x32 tag .badField []))) ∧
    (gantryOfBay b = g → ¬ may → exec command s = .next (s.answered (reply 0x32 tag .wrongState []))) ∧
    (gantryOfBay b = g → may → (s.bay b).state ≠ .ready →
      exec command s = .next (s.answered (reply 0x32 tag .bayNotReady []))) ∧
    (gantryOfBay b = g → may → (s.bay b).state = .ready → s.overhead b = true →
      exec command s = .next (s.answered (reply 0x32 tag .bayOverhead []))) ∧
    (gantryOfBay b = g → may → (s.bay b).state = .ready → s.overhead b = false →
      s.guardActive b = true ∨ (s.channel g).buffer = [] → (s.monitor g).arc = .dark →
      (∀ w ∈ s.budget.waitList, w.channel ≠ g) → ∃ t, exec command s = .next t ∧
        s.Replied t (reply 0x32 tag .ok []) ∧
        t.bayTable = { s.bayTable with
          bays := put s.bayTable.bays b { s.bay b with state := .burning }, changed := insertAsc b s.bayTable.changed } ∧
        t.channels = put s.channels g { s.channel g with
          state := if s.guardActive b then .held else .starved
          heldCause := if s.guardActive b then some .guard else (s.channel g).heldCause
          bay := some b, reentry := false, endConsumed := false, pierceConsumed := false, window := [], frozen := false
          haltTimer := if s.guardActive b then some 1000 else none
          dwellTimer := if s.guardActive b then none else (s.channel g).dwellTimer
          checkTimer := if s.guardActive b then none else (s.channel g).checkTimer
          inProgress := .none, path := none, milestoneCode := 0, milestoneCount := 0, params := (s.monitor g).params } ∧
        (Sent.gantry g .halt ∈ t.sent.drop s.sent.length ↔ s.guardActive b = true) ∧
        (t.notice .bay).pending = true ∧ (t.notice (.channelEvent g)).pending = true ∧
        s.ChangesOnly ([.link, .receivers, .bays, .channels] ++ dispatchFrame) t) ∧
    (gantryOfBay b = g → may → (s.bay b).state = .ready → s.overhead b = false → s.guardActive b = false →
      (s.monitor g).arc = .dark →
      let begun : Channel := { s.channel g with
        state := .running, bay := some b, reentry := false, endConsumed := false, pierceConsumed := false, window := []
        frozen := false, haltTimer := none, inProgress := .none, path := none, milestoneCode := 0, milestoneCount := 0
        params := (s.monitor g).params }
      let begins (t : State) (c : Channel) (sent : List Sent) := exec command s = .next t ∧
        s.Replied t (reply 0x32 tag .ok []) ∧
        t.bayTable = { s.bayTable with
          bays := put s.bayTable.bays b { s.bay b with state := .burning }, changed := insertAsc b s.bayTable.changed } ∧
        t.channels = put s.channels g c ∧
        (∃ first last, t.sent = s.sent ++ first ++ sent ++ last ∧ ∀ m ∈ first ++ last, ∃ d p, m = .crane d (.goto p)) ∧
        (t.notice .bay).pending = true
      (∀ x y feed rest, (s.channel g).buffer = .travel x y feed :: rest → waitsBehindTravel rest →
        ∃ t, begins t (begun.afterTravel x y feed rest) [.gantry g (.move (s.channel g).nextSeq .travel x y feed none none)] ∧
          s.ChangesOnly ([.link, .receivers, .bays, .channels] ++ dispatchFrame) t) ∧
      (∀ current volts dwell rest, (s.channel g).buffer = .pierce current volts dwell :: rest →
        let amount := (current * s.budget.surge + 99) / 100
        let room := s.budget.causes = ⟨false, none⟩ ∧ s.budget.waitList = [] ∧ s.budget.total + amount ≤ s.budget.limit
        let piercing := { begun with
          buffer := rest, pierceConsumed := true, inProgress := .pierce current volts dwell }
        amount ≤ s.budget.limit →
        (¬ room → ∃ t, begins t { piercing with state := .waitBudget } [] ∧
          t.budget = { s.budget with
            waitList := s.budget.waitList ++ [⟨g, .pierce, amount⟩], joins := bump s.budget.joins } ∧
          (t.notice .budget).pending = true ∧
          s.ChangesOnly ([.link, .receivers, .bays, .channels, .budget] ++ dispatchFrame) t) ∧
        (room → ∃ t, begins t piercing [.gantry g (.torchOn current .cut)] ∧
          t.booking g = ⟨.pierce, amount⟩ ∧ t.budget.total = s.budget.total - (s.booking g).amount + amount ∧
          t.budget.immediate = bump s.budget.immediate ∧ t.budget.waitList = [] ∧
          t.monitors = put s.monitors g { s.monitor g with
            arc := .striking, setpoint := some volts, purpose := some .pierce, goodCount := 0, retryCount := 0, samples := []
            badCount := 0, heightHold := false, strikeTimer := some (s.monitor g).params.strikeTimeout } ∧
          (t.notice (.channelEvent g)).pending = true ∧
          s.ChangesOnly ([.link, .receivers, .bays, .channels, .monitors, .budget] ++ dispatchFrame) t)))

/-- R39: HOLD in RUNNING, WAIT_BUDGET, WAIT_CHECK or STARVED: HALT first, then HELD(HOST) with the halt timer at 1 000 ms, dwell
and check timers abandoned, the arc DARK, its booking released and no entry in the wait list; buffer, window, bay and path stay. A
CUT that was burning or a dwell sets the reentry flag (notes/assumptions/34). Elsewhere it is refused with WRONG_STATE. -/
def Obligations.HoldKeepsTheRun : Prop :=
  ∀ (tag : Byte) (g : Gantry) (s : State), s.Open →
    ((s.channel g).state = .idle ∨ (s.channel g).state = .held ∨ (s.channel g).state = .ending →
      exec (.hold tag (u8 (g.val + 1))) s = .next (s.answered (reply 0x33 tag .wrongState []))) ∧
    ((s.channel g).state ≠ .idle → (s.channel g).state ≠ .held → (s.channel g).state ≠ .ending →
      ((s.monitor g).arc ≠ .dark → ∀ w ∈ s.budget.waitList, w.channel ≠ g) →
      ∃ t, exec (.hold tag (u8 (g.val + 1))) s = .next t ∧ s.Replied t (reply 0x33 tag .ok []) ∧
        s.Held t g .host ∧
        s.ChangesOnly [.link, .notices, .receivers, .channels, .monitors, .budget, .composer, .sent] t)

/-- R43, R28, R30, R38: RESUME is refused with WRONG_STATE unless the channel is HELD, the halt has been answered, its guard is not
active under cause GUARD and the hall works. A channel with nothing in hand starves, and one with a TRAVEL at the head of its
buffer sends it; the frozen flag of an empty window is cleared with nothing sent (notes/assumptions/27). A frozen window of TRAVELs
is sent again, oldest first from the halted point, with new numbers, and each sending sets the path point (notes/assumptions/28);
that a full window of four does not starve then is the model's choice (notes/assumptions/31). A PIERCE in progress asks for its
booking anew, and waits for it while the gate is CLOSED; a frozen CUT with the reentry flag set waits likewise for its re-pierce. -/
def Obligations.ResumeTakesTheRunUp : Prop :=
  ∀ (tag : Byte) (g : Gantry) (s : State), s.Open →
    let command := Instr.resume tag (u8 (g.val + 1))
    let c := s.channel g
    let may := c.state = .held ∧ c.haltTimer = none ∧ (s.hall.state = .run ∨ s.hall.state = .purge) ∧
      ∀ b, c.heldCause = some .guard → c.bay = some b → s.guardActive b = false
    (¬ may → exec command s = .next (s.answered (reply 0x34 tag .wrongState []))) ∧
    (may → c.window = [] → c.inProgress = .none → c.buffer = [] → c.endConsumed = false → (s.monitor g).arc = .dark →
      exec command s = .next (((s.answered (reply 0x34 tag .ok [])).modChannel g (fun c =>
        { c with state := .starved, heldCause := none, frozen := false })).mark (.channelEvent g))) ∧
    (∀ x y feed rest, may → c.window = [] → c.inProgress = .none → c.buffer = .travel x y feed :: rest → waitsBehindTravel rest →
      c.endConsumed = false → (s.monitor g).arc = .dark → ∃ t, exec command s = .next t ∧ s.Replied t (reply 0x34 tag .ok []) ∧
      t.channels = put s.channels g ({ c with heldCause := none, frozen := false }.afterTravel x y feed rest) ∧
      t.sent = s.sent ++ [.gantry g (.move c.nextSeq .travel x y feed none none)] ∧
      s.Marked t (if rest = [] then [.channelEvent g] else []) ∧
      s.ChangesOnly [.link, .notices, .receivers, .channels, .sent] t) ∧
    (∀ moves : List (Nat × Nat × Nat), may → c.frozen = true → c.window ≠ [] → c.window.length ≤ 4 →
      c.window.map (·.step) = moves.map (fun m => .motion (.travel m.1 m.2.1 m.2.2)) → c.inProgress = .none → c.buffer = [] →
      c.endConsumed = false → (s.monitor g).arc = .dark → ∃ t, exec command s = .next t ∧ s.Replied t (reply 0x34 tag .ok []) ∧
      t.sent = s.sent ++ moves.mapIdx (fun i m =>
        .gantry g (.move (c.nextSeq + BitVec.ofNat 8 i) .travel m.1 m.2.1 m.2.2 none none)) ∧
      t.channels = put s.channels g { c with
        state := if c.window.length < 4 then .starved else .running
        heldCause := none
        frozen := false
        window := c.window.mapIdx (fun i e =>
          { e with seq := c.nextSeq + BitVec.ofNat 8 i, start := if i = 0 then c.path else e.start })
        nextSeq := c.nextSeq + BitVec.ofNat 8 moves.length
        path := moves.getLast?.map (fun m => ⟨m.1, m.2.1⟩) } ∧
      s.Marked t (if c.window.length < 4 then [.channelEvent g] else []) ∧
      s.ChangesOnly [.link, .notices, .receivers, .channels, .sent] t) ∧
    (∀ current setpoint dwell, may → c.window = [] → c.inProgress = .pierce current setpoint dwell →
      s.budget.causes ≠ ⟨false, none⟩ → (current * s.budget.surge + 99) / 100 ≤ s.budget.limit →
      exec command s = .next { ((s.answered (reply 0x34 tag .ok [])).modChannel g (fun c =>
        { c with state := .waitBudget, heldCause := none, frozen := false })).mark .budget with
          budget := { s.budget with
            waitList := s.budget.waitList ++ [⟨g, .pierce, (current * s.budget.surge + 99) / 100⟩]
            joins := bump s.budget.joins } }) ∧
    (∀ current setpoint, may → c.frozen = true → c.reentry = true → c.activeCut = some (current, setpoint) →
      s.budget.causes ≠ ⟨false, none⟩ → (current * s.budget.surge + 99) / 100 ≤ s.budget.limit →
      exec command s = .next { ((s.answered (reply 0x34 tag .ok [])).modChannel g (fun c =>
        { c with state := .waitBudget, heldCause := none, inProgress := .repierce current setpoint })).mark .budget with
          budget := { s.budget with
            waitList := s.budget.waitList ++ [⟨g, .pierce, (current * s.budget.surge + 99) / 100⟩]
            joins := bump s.budget.joins } })

/-- R45: every end of a run leaves the channel IDLE and empty, the booking of a lit arc released and its bay out of
BURNING: STOP (ABORTED, answered OK; refused with WRONG_STATE when IDLE), the halt timer (GANTRY_FAULT), the check timer
(CHECK_TIMEOUT), a fault STATUS (GANTRY_FAULT) and the gantry's silence (GANTRY_SILENT). A stopped timer does nothing (notes/assumptions/15). -/
def Obligations.RunEndsLeaveTheChannelEmpty : Prop :=
  (∀ (tag : Byte) (g : Gantry) (s : State), s.Open → (s.channel g).state = .idle →
    exec (.stop tag (u8 (g.val + 1))) s = .next (s.answered (reply 0x35 tag .wrongState []))) ∧
  (∀ (g : Gantry) (b : BayIx) (s : State), (s.channel g).state ≠ .idle → (s.channel g).bay = some b →
    ((s.monitor g).arc ≠ .dark → ∀ w ∈ s.budget.waitList, w.channel ≠ g) →
    (∀ tag, s.Open → ∃ t, exec (.stop tag (u8 (g.val + 1))) s = .next t ∧ s.RunEnded t g b .aborted ∧
      s.Replied t (reply 0x35 tag .ok []) ∧ s.ChangesOnly (.link :: .receivers :: reportFrame) t) ∧
    ((s.channel g).haltTimer ≠ none → ∃ t, exec (.haltTimerExpiry g) s = .next t ∧ s.RunEnded t g b .gantryFault) ∧
    ((s.channel g).checkTimer ≠ none → ∃ t, exec (.checkTimerExpiry g) s = .next t ∧ s.RunEnded t g b .checkTimeout) ∧
    (∀ code : Byte, code ≠ 0 → ∃ t, exec (.gantryStatus g code) s = .next t ∧ s.RunEnded t g b .gantryFault ∧
      (t.channel g).gantryCode = code) ∧
    ((s.channel g).gantryTimer ≠ none → ∃ t, exec (.gantrySilenceTimeout g) s = .next t ∧
      s.RunEnded t g b .gantrySilent ∧ (t.channel g).gantryTimer = none)) ∧
  (∀ (g : Gantry) (s : State), (s.channel g).haltTimer = none → exec (.haltTimerExpiry g) s = .next s) ∧
  (∀ (g : Gantry) (s : State), (s.channel g).checkTimer = none → exec (.checkTimerExpiry g) s = .next s) ∧
  (∀ (g : Gantry) (s : State), (s.channel g).gantryTimer = none → exec (.gantrySilenceTimeout g) s = .next s)

/-! ## Gantry messages and arc timers -/

/-- R28, R37, R42, R48: a DONE of an unknown number, or while a halt is awaited or the window frozen, and a HALTED that nobody
awaits are strays. HALTED sets the path point, as reported (notes/assumptions/33), freezes the window, an empty one too
(notes/assumptions/27), and drops a MARK's entry. In ENDING a DONE takes its entry and the older ones out of the window, and the
last one completes the run. The DONE of a MARK_TEXT settles its mark as MARKED: its record is found by number, channel and outcome
(notes/assumptions/53) and is the one the MARK notice carries (notes/assumptions/58). STATUS 0 is stored. -/
def Obligations.GantryReportsMoveTheWindow : Prop :=
  (∀ (g : Gantry) (seq : Byte) (s : State), s.Settled →
    (s.channel g).frozen = true ∨ (s.channel g).haltTimer ≠ none ∨ (∀ e ∈ (s.channel g).window, e.seq ≠ seq) →
    exec (.gantryDone g seq) s = .next ((s.gantryFrameTaken g).modChannel g (fun c => { c with strays := bump c.strays }))) ∧
  (∀ (g : Gantry) (seq : Byte) (gone kept : List WindowEntry) (e : WindowEntry) (b : BayIx) (s : State), s.Settled →
    (s.channel g).state = .ending → (s.channel g).frozen = false → (s.channel g).haltTimer = none →
    (s.channel g).inProgress = .none → (s.monitor g).arc = .dark → (s.channel g).bay = some b →
    (s.channel g).window = gone ++ e :: kept → e.seq = seq → (∀ d ∈ gone, d.seq ≠ seq) →
    (∀ d ∈ gone ++ [e], ∃ step, d.step = .motion step) →
    (kept ≠ [] → exec (.gantryDone g seq) s = .next ((s.gantryFrameTaken g).modChannel g (fun c =>
      { c with window := kept, stepsDone := min 65535 (c.stepsDone + (gone.length + 1)) }))) ∧
    (kept = [] → ∃ t, exec (.gantryDone g seq) s = .next t ∧ s.RunEnded t g b .complete ∧
      (t.channel g).stepsDone = min 65535 ((s.channel g).stepsDone + (gone.length + 1)))) ∧
  (∀ (g : Gantry) (seq : Byte) (x y part height current volts : Nat) (r : TraceRecord) (start : Option Point) (h : Heat) (s : State),
    s.Settled → s.MarksAlone g → (s.channel g).frozen = false → (s.channel g).haltTimer = none →
    (s.channel g).inProgress = .mark x y part height current volts (.writing r) → r.channel = g → s.heat r.heat = some h →
    (s.channel g).window = [⟨seq, .markText, start, none⟩] →
    let marked : TraceRecord := { r with outcome := .marked }
    ∃ t, exec (.gantryDone g seq) s = .next t ∧ s.MarkEnded t g marked ∧ t.composer = { s.composer with
      heats := put s.composer.heats r.heat (some { h with made := h.made + 1 })
      trace := s.composer.trace.map (fun q => if q.number = r.number ∧ q.channel = g ∧ q.outcome = .writing then marked else q)
      lastMark := some marked }) ∧
  (∀ (g : Gantry) (x : BitVec 32) (y : BitVec 16) (s : State),
    ((s.channel g).haltTimer = none → exec (.gantryHalted g x y) s =
      .next ((s.gantryFrameTaken g).modChannel g (fun c => { c with strays := bump c.strays }))) ∧
    ((s.channel g).haltTimer ≠ none → exec (.gantryHalted g x y) s = .next ((s.gantryFrameTaken g).modChannel g (fun c =>
      { c with
        haltTimer := none
        path := some ⟨x.toNat, y.toNat⟩
        frozen := true
        window := c.window.filter (fun e => e.step ≠ .markMove ∧ e.step ≠ .markText) })))) ∧
  (∀ (g : Gantry) (s : State), s.Settled →
    exec (.gantryStatus g 0) s = .next ((s.gantryFrameTaken g).modChannel g (fun c => { c with gantryCode := 0 }))) ∧
  (∀ (g : Gantry) (typ : Byte) (body : List Byte) (s : State), exec (.gantryStrayFrame g typ body) s =
    .next ((s.gantryFrameTaken g).modChannel g (fun c => { c with strays := bump c.strays })))

/-- R52, R54, R56, R57, R58, R60: a sample at a DARK arc is discarded. In STRIKING a BAD sample clears the good count, and the N-th
GOOD one in a row declares STABLE, which starts a pierce's dwell, and gives a mark its serial, string and WRITING record, or the
outcome NO_SERIAL, which the MARK notice carries (notes/assumptions/58), where its heat is exhausted. In STABLE and DISTURBED it
joins the window of W: at E BAD entries the arc is lost, else a BAD sample disturbs a STABLE arc and an empty bad count calms a
DISTURBED one. -/
def Obligations.SamplesJudgeTheArc : Prop :=
  ∀ (g : Gantry) (v : BitVec 16) (s : State), s.Settled →
    let c := s.channel g
    let m := s.monitor g
    let clamped := if 5000 < v.toNat then bump m.clamped else m.clamped
    let judged := min v.toNat 5000
    (m.arc = .dark → exec (.gantrySample g v) s =
      .next ((s.gantryFrameTaken g).modMonitor g (fun m => { m with discarded := bump m.discarded }))) ∧
    (∀ setpoint, m.setpoint = some setpoint →
      let good := judged ≠ 0 ∧ setpoint ≤ judged + c.params.band ∧ judged ≤ setpoint + c.params.band
      let q := if good then Quality.good else Quality.bad
      let samples := m.samples.drop (m.samples.length + 1 - c.params.window) ++ [q]
      let bad := samples.count .bad
      (m.arc = .striking → ¬ good → exec (.gantrySample g v) s = .next ((s.gantryFrameTaken g).modMonitor g (fun m =>
        { m with clamped, classified := bump m.classified, goodCount := 0 }))) ∧
      (m.arc = .striking → good → bump8 m.goodCount < c.params.stableCount →
        exec (.gantrySample g v) s = .next ((s.gantryFrameTaken g).modMonitor g (fun m =>
          { m with clamped, classified := bump m.classified, goodCount := bump8 m.goodCount }))) ∧
      (∀ current volts dwell, m.arc = .striking → good → c.params.stableCount ≤ bump8 m.goodCount →
        c.inProgress = .pierce current volts dwell → dwell ≠ 0 →
        exec (.gantrySample g v) s = .next ((((s.gantryFrameTaken g).modMonitor g (fun m =>
          { m with
            clamped, classified := bump m.classified, goodCount := bump8 m.goodCount
            arc := .stable, strikeTimer := none, samples := [], badCount := 0 })).mark (.channelEvent g)).modChannel g
              (fun c => { c with dwellTimer := some dwell }))) ∧
      (∀ x y part height current volts b p e, m.arc = .striking → good → c.params.stableCount ≤ bump8 m.goodCount →
        c.inProgress = .mark x y part height current volts .striking → c.bay = some b → (s.bay b).plate = some p →
        s.heat p.heat = some e →
        let record (serial : Option Nat) (outcome : TraceOutcome) : TraceRecord :=
          { number := min 4294967295 (s.composer.total + 1), channel := g, bay := b, heat := p.heat, code := e.code, serial, part
            outcome }
        let writing := record (some e.next) .writing
        let stable := ((s.gantryFrameTaken g).modMonitor g (fun m =>
          { m with
            clamped, classified := bump m.classified, goodCount := bump8 m.goodCount
            arc := .stable, strikeTimer := none, samples := [], badCount := 0 })).mark (.channelEvent g)
        (e.next < 100000 → exec (.gantrySample g v) s = .next { stable.modChannel g (fun c =>
            { c with
              inProgress := .mark x y part height current volts (.writing writing)
              nextSeq := c.nextSeq + 1
              window := [⟨c.nextSeq, .markText, c.path, none⟩] }) with
          composer := { s.composer with
            heats := put s.composer.heats p.heat (some { e with next := e.next + 1 })
            total := writing.number
            trace := (s.composer.trace ++ [writing]).drop (s.composer.trace.length + 1 - 64) }
          sent := s.sent ++ [.gantry g (.markText c.nextSeq (markString e.code e.next) height)] }) ∧
        (e.next = 100000 → s.MarksAlone g → c.window = [] → ∃ t, exec (.gantrySample g v) s = .next t ∧
          s.MarkEnded t g (record none .noSerial) ∧ t.composer = s.composer.withRecord (record none .noSerial))) ∧
      (m.arc = .stable ∨ m.arc = .disturbed → bad < c.params.lossCount →
        let disturbs := m.arc = .stable ∧ ¬ good
        let calms := m.arc = .disturbed ∧ bad = 0
        let judgedMonitor (arc : ArcState) (height : Bool) (disturbances : Nat) := (s.gantryFrameTaken g).modMonitor g (fun m =>
          { m with
            clamped, classified := bump m.classified, samples, badCount := bad
            arc, heightHold := height, disturbances })
        (disturbs → exec (.gantrySample g v) s =
          .next (((judgedMonitor .disturbed true (bump m.disturbances)).mark (.channelEvent g)).tellGantry g (.heightHold true))) ∧
        (calms → exec (.gantrySample g v) s =
          .next (((judgedMonitor .stable false m.disturbances).mark (.channelEvent g)).tellGantry g (.heightHold false))) ∧
        (¬ disturbs → ¬ calms → exec (.gantrySample g v) s =
          .next (judgedMonitor m.arc m.heightHold m.disturbances))) ∧
      (m.arc = .stable ∨ m.arc = .disturbed → c.params.lossCount ≤ bad → (∀ w ∈ s.budget.waitList, w.channel ≠ g) →
        (∀ x y part height current volts stage, c.inProgress ≠ .mark x y part height current volts stage) →
        ∃ t, exec (.gantrySample g v) s = .next t ∧
          (t.channel g).state = .held ∧ (t.channel g).heldCause = some .arcLost ∧ (t.channel g).haltTimer = some 1000 ∧
          (t.channel g).reentry = true ∧ (t.channel g).dwellTimer = none ∧ (t.channel g).window = c.window ∧
          (t.channel g).buffer = c.buffer ∧ (t.channel g).inProgress = c.inProgress ∧
          (t.monitor g).arc = .dark ∧ (t.monitor g).losses = bump m.losses ∧ t.booking g = ⟨.none, 0⟩ ∧
          (∃ more, t.sent = s.sent ++ .gantry g .torchOff ::
            (if m.heightHold then [Sent.gantry g (.heightHold false)] else []) ++ more ∧ .gantry g .halt ∈ more) ∧
          (t.notice (.channelEvent g)).pending = true ∧
          s.ChangesOnly [.receivers, .notices, .channels, .monitors, .budget, .composer, .sent] t))

/-- R31, R55: the strike timer re-strikes with TORCH_OFF and TORCH_ON while retries are left; after them a pierce or re-pierce ends
the run with STRIKE_FAILED, and a mark ends NOT_MARKED with no serial taken, in a record that the MARK notice carries
(notes/assumptions/58). The dwell timer's expiry steps the booking down to the cut current, and a CUT of that current waiting in
the buffer is sent at once. A stopped timer does nothing (notes/assumptions/15). -/
def Obligations.StrikeAndDwellTimersAct : Prop :=
  (∀ (g : Gantry) (current : Nat) (mode : TorchMode) (s : State), s.Settled → (s.monitor g).strikeTimer ≠ none →
    (s.monitor g).retryCount < (s.channel g).params.strikeRetries →
    (mode = .cut ∧ ((∃ volts dwell, (s.channel g).inProgress = .pierce current volts dwell) ∨
        ∃ volts, (s.channel g).inProgress = .repierce current volts) ∨
      mode = .mark ∧ ∃ x y part height volts stage,
        (s.channel g).inProgress = .mark x y part height current volts stage) →
    exec (.strikeTimerExpiry g) s = .next ((((s.tellGantry g .torchOff).tellGantry g (.torchOn current mode)).modMonitor g (fun m =>
      { m with
        retryCount := m.retryCount + 1
        retriesMade := bump m.retriesMade
        goodCount := 0
        strikeTimer := some (s.channel g).params.strikeTimeout })))) ∧
  (∀ (g : Gantry) (b : BayIx) (s : State), (s.monitor g).strikeTimer ≠ none →
    (s.channel g).params.strikeRetries ≤ (s.monitor g).retryCount → (s.channel g).state ≠ .idle → (s.channel g).bay = some b →
    (∀ w ∈ s.budget.waitList, w.channel ≠ g) →
    (∀ x y part height current volts stage, (s.channel g).inProgress ≠ .mark x y part height current volts stage) →
    ∃ t, exec (.strikeTimerExpiry g) s = .next t ∧ s.RunEnded t g b .strikeFailed ∧
      (t.monitor g).strikeFailures = bump (s.monitor g).strikeFailures ∧ (t.monitor g).strikeTimer = none) ∧
  (∀ (g : Gantry) (x y part height current volts : Nat) (b : BayIx) (p : Plate) (e : Heat) (s : State), s.Settled →
    (s.monitor g).strikeTimer ≠ none → (s.channel g).params.strikeRetries ≤ (s.monitor g).retryCount → s.MarksAlone g →
    (s.channel g).window = [] → (s.channel g).inProgress = .mark x y part height current volts .striking →
    (s.channel g).bay = some b → (s.bay b).plate = some p → s.heat p.heat = some e →
    let record : TraceRecord :=
      { number := min 4294967295 (s.composer.total + 1), channel := g, bay := b, heat := p.heat, code := e.code, serial := none
        part, outcome := .notMarked }
    ∃ t, exec (.strikeTimerExpiry g) s = .next t ∧ s.MarkEnded t g record ∧ t.composer = s.composer.withRecord record ∧
      (t.monitor g).strikeFailures = bump (s.monitor g).strikeFailures ∧ (t.monitor g).strikeTimer = none) ∧
  (∀ (g : Gantry) (current volts dwell x y feed setpoint : Nat) (s : State), s.Settled → (s.channel g).dwellTimer ≠ none →
    (s.channel g).state = .running → (s.channel g).inProgress = .pierce current volts dwell → (s.channel g).window = [] →
    (s.channel g).frozen = false → (s.channel g).buffer = [.cutLine x y feed current setpoint] →
    (s.monitor g).arc = .stable → s.budget.waitList = [] →
    ∃ t, exec (.dwellTimerExpiry g) s = .next t ∧ t.booking g = ⟨.cut, current⟩ ∧
      t.budget.total = s.budget.total - (s.booking g).amount + current ∧
      t.channels = put s.channels g { s.channel g with
        state := .starved
        dwellTimer := none
        pierces := bump (s.channel g).pierces
        stepsDone := bump (s.channel g).stepsDone
        reentry := false
        inProgress := .none
        buffer := []
        window := [⟨(s.channel g).nextSeq, .motion (.cutLine x y feed current setpoint), (s.channel g).path, none⟩]
        nextSeq := (s.channel g).nextSeq + 1
        path := some ⟨x, y⟩ } ∧
      t.monitors = put s.monitors g { s.monitor g with setpoint := some setpoint } ∧
      t.sent = s.sent ++ [.gantry g (.move (s.channel g).nextSeq .cutLine x y feed (some setpoint) none)] ∧
      s.ChangesOnly [.notices, .channels, .monitors, .budget, .sent] t) ∧
  (∀ (g : Gantry) (s : State), (s.monitor g).strikeTimer = none → exec (.strikeTimerExpiry g) s = .next s) ∧
  (∀ (g : Gantry) (s : State), (s.channel g).dwellTimer = none → exec (.dwellTimerExpiry g) s = .next s)

/-! ## Feeder budget -/

/-- R76, R70: BUDGET_SET outside its ranges is refused BAD_FIELD, below the present total LIMIT_BELOW_LOAD. Accepted with nobody
waiting it replaces L, H, Lo and P, marks BUDGET and judges LOAD anew: above H it is a cause, at Lo or below it is none, between it
is kept. Bookings, total and lit arcs stay. -/
def Obligations.BudgetSetReplacesTheValues : Prop :=
  ∀ (tag : Byte) (limit high low surge : Nat) (s : State), s.Open → limit < 65536 → high < 65536 → low < 65536 → surge < 256 →
    let command := Instr.budgetSet tag (u16 limit ++ u16 high ++ u16 low ++ u8 surge)
    let inRange := 100 ≤ limit ∧ limit ≤ 2000 ∧ 100 ≤ surge ∧ surge ≤ 250 ∧ low < high ∧ high ≤ limit
    (¬ inRange → exec command s = .next (s.answered (reply 0x41 tag .badField []))) ∧
    (inRange → limit < s.budget.total → exec command s = .next (s.answered (reply 0x41 tag .limitBelowLoad []))) ∧
    (inRange → s.budget.total ≤ limit → s.budget.waitList = [] → ∃ t, exec command s = .next t ∧
      s.Replied t (reply 0x41 tag .ok []) ∧
      t.budget = { s.budget with
        limit, high, low, surge
        causes := { s.budget.causes with
          load := if high < s.budget.total then true else if s.budget.total ≤ low then false else s.budget.causes.load }
        gateClosings := t.budget.gateClosings } ∧
      (t.notice .budget).pending = true ∧ s.ChangesOnly [.link, .notices, .receivers, .budget] t)

/-- R66, R67, R68, R69, R71, R73: nothing the unit does to bookings raises T above L: a request, with the admission it may be
given, a step-down to a current not above the booking, a re-booking, a release, a removal from the wait list and the opening of the
gate, each with the admissions its list test makes. -/
def Obligations.TotalStaysUnderTheLimit : Prop :=
  ∀ (s : State) (g : Gantry), s.BudgetBalanced → s.budget.total ≤ s.budget.limit →
    let under (t : State) := t.budget.total ≤ t.budget.limit ∧ t.budget.limit = s.budget.limit ∧ t.BudgetBalanced
    (∀ kind amount, under (s.requestBooking g kind amount)) ∧
    (∀ current, current ≤ (s.booking g).amount → under (s.stepDownBooking g current)) ∧
    (∀ current, under (s.rebookCut g current)) ∧
    under (s.releaseBooking g) ∧ under (s.removeWaiter g) ∧ (∀ cause, under (s.setHallGate cause))

/-! ## Mark composer -/

/-- R82, R83, R84: HEAT_OPEN gives the lowest free entry to a heat, ACTIVE, its next serial the first, its counts 0. HEAT_CLOSE and
HEAT_REOPEN turn ACTIVE into CLOSED and back and change nothing else; HEAT_DROP frees an entry without references. Each refusal
changes nothing. -/
def Obligations.HeatEntriesOpenCloseAndDrop : Prop :=
  (∀ (tag : Byte) (code : Code) (grade first : Nat) (s : State), s.Open → code.length = 8 → grade < 256 → first < 2 ^ 32 →
    let command := Instr.heatOpen tag (code ++ u8 grade ++ u32 first)
    let inRange := code.all isCodeChar = true ∧ 1 ≤ grade ∧ 1 ≤ first ∧ first ≤ 99999
    let known := ∃ h e, s.heat h = some e ∧ e.code = code
    (¬ inRange ∨ known → exec command s = .next (s.answered (reply 0x51 tag .badField []))) ∧
    (inRange → ¬ known → (∀ h, s.heat h ≠ none) → exec command s = .next (s.answered (reply 0x51 tag .tableFull []))) ∧
    (∀ h, inRange → ¬ known → s.heat h = none → (∀ k, k < h → s.heat k ≠ none) →
      let opened : Heat := { state := .active, code, grade, first, next := first, made := 0, failed := 0, refs := 0 }
      exec command s = .next { s.answered (reply 0x51 tag .ok (u8 h.val)) with
        composer := { s.composer with heats := put s.composer.heats h (some opened) } })) ∧
  (∀ (tag : Byte) (h : HeatIx) (s : State), s.Open → s.heat h = none →
    exec (.heatClose tag (u8 h.val)) s = .next (s.answered (reply 0x52 tag .unknownHeat [])) ∧
    exec (.heatReopen tag (u8 h.val)) s = .next (s.answered (reply 0x53 tag .unknownHeat [])) ∧
    exec (.heatDrop tag (u8 h.val)) s = .next (s.answered (reply 0x54 tag .unknownHeat []))) ∧
  (∀ (tag : Byte) (h : HeatIx) (e : Heat) (s : State), s.Open → s.heat h = some e →
    exec (.heatClose tag (u8 h.val)) s = .next
      (if e.state = .active then { s.answered (reply 0x52 tag .ok []) with
        composer := { s.composer with heats := put s.composer.heats h (some { e with state := .closed }) } }
      else s.answered (reply 0x52 tag .wrongState [])) ∧
    exec (.heatReopen tag (u8 h.val)) s = .next
      (if e.state = .closed then { s.answered (reply 0x53 tag .ok []) with
        composer := { s.composer with heats := put s.composer.heats h (some { e with state := .active }) } }
      else s.answered (reply 0x53 tag .wrongState [])) ∧
    exec (.heatDrop tag (u8 h.val)) s = .next
      (if e.refs = 0 then { s.answered (reply 0x54 tag .ok []) with
        composer := { s.composer with heats := put s.composer.heats h none } }
      else s.answered (reply 0x54 tag .heatInUse [])))

/-- R89: the mark string is the heat code, a hyphen, five digits of the serial, a hyphen and the check symbol; the weighted sum of
the thirteen characters and the check value are a multiple of 37, and one wrong character or two neighbours swapped are not. -/
def Obligations.CheckSymbolDetectsErrors : Prop :=
  ∀ (code : Code) (serial : Nat), code.length = 8 → code.all isCodeChar = true → serial ≤ 99999 →
    let chars := code ++ serialDigits serial
    (∃ digits symbol, markString code serial = code ++ 0x2D :: digits ++ [0x2D, symbol] ∧ digits.length = 5 ∧
      (∀ d ∈ digits, 0x30 ≤ d.toNat ∧ d.toNat ≤ 0x39) ∧ digits.foldl (fun n d => 10 * n + (d.toNat - 0x30)) 0 = serial ∧
      symbol = checkChar (checkValue chars)) ∧
    checkValue chars ≤ 36 ∧ (weightedSum chars + checkValue chars) % 37 = 0 ∧
    (∀ (i : Nat) (wrong : Byte), i < 13 → isCodeChar wrong = true → chars[i]? ≠ some wrong →
      (weightedSum (chars.set i wrong) + checkValue chars) % 37 ≠ 0) ∧
    (∀ (i : Nat) (a b : Byte), chars[i]? = some a → chars[i + 1]? = some b → a ≠ b →
      (weightedSum ((chars.set i b).set (i + 1) a) + checkValue chars) % 37 ≠ 0)

/-! ## Remnant table -/

/-- R99, R100, R109: REMNANT_ADD gives the lowest VACANT record to a piece in a free slot, of a heat in use and of its grade, large
enough under the margin: STOCKED with the age given, EXPIRED at once where that reaches the expiry count. Its heat gains a
reference. It is refused by its first failure, changing nothing. -/
def Obligations.RemnantAddStocksAPiece : Prop :=
  (∀ (tag : Byte) (rack slot h grade thickness width length age : Nat) (s : State), s.Open →
    rack < 256 → slot < 256 → h < 256 → grade < 256 → thickness < 256 → width < 65536 → length < 65536 → age < 256 →
    ¬ (1 ≤ rack ∧ rack ≤ 4 ∧ 1 ≤ slot ∧ slot ≤ 24 ∧ h ≤ 31 ∧ 1 ≤ grade ∧ 3 ≤ thickness ∧ thickness ≤ 150 ∧
      100 ≤ width ∧ width ≤ 4000 ∧ 100 ≤ length ∧ length ≤ 16000) →
    exec (.remnantAdd tag (u8 rack ++ u8 slot ++ u8 h ++ u8 grade ++ u8 thickness ++ u16 width ++ u16 length ++ u8 age)) s =
      .next (s.answered (reply 0x61 tag .badField []))) ∧
  ∀ (tag : Byte) (k : Slot) (h : HeatIx) (grade thickness width length age : Nat) (s : State), s.Open →
    1 ≤ grade ∧ grade ≤ 255 → 3 ≤ thickness ∧ thickness ≤ 150 → 100 ≤ width ∧ width ≤ 4000 → 100 ≤ length ∧ length ≤ 16000 →
    age ≤ 255 →
    let command := Instr.remnantAdd tag (u8 (k.rack.val + 1) ++ u8 (k.slot.val + 1) ++ u8 h.val ++ u8 grade ++ u8 thickness ++
      u16 width ++ u16 length ++ u8 age)
    let large := s.remnants.minDimension + 2 * s.remnants.margin ≤ width ∧ s.remnants.minDimension + 2 * s.remnants.margin ≤ length
    let free := (∀ i r, s.remnant i = some r → r.slot ≠ some k) ∧ (∀ o ∈ s.dispatcher.orders, o.dest ≠ .rack k)
    (s.heat h = none → exec command s = .next (s.answered (reply 0x61 tag .unknownHeat []))) ∧
    (∀ e, s.heat h = some e →
      (grade ≠ e.grade → exec command s = .next (s.answered (reply 0x61 tag .badField []))) ∧
      (grade = e.grade → ¬ large → exec command s = .next (s.answered (reply 0x61 tag .tooSmall []))) ∧
      (grade = e.grade → large → ¬ free → exec command s = .next (s.answered (reply 0x61 tag .slotOccupied []))) ∧
      (grade = e.grade → large → free → (∀ i, s.remnant i ≠ none) →
        exec command s = .next (s.answered (reply 0x61 tag .tableFull []))) ∧
      (∀ i, grade = e.grade → large → free → s.remnant i = none → (∀ j, j < i → s.remnant j ≠ none) →
        let stocked : Remnant :=
          { state := .stocked, heat := h, grade, thickness, rawWidth := width, rawLength := length, slot := some k, age
            usableWidth := width - 2 * s.remnants.margin, usableLength := length - 2 * s.remnants.margin
            bay := none, crane := none, tag := none }
        let u := { s.answered (reply 0x61 tag .ok (u8 i.val)) with
          composer := { s.composer with heats := put s.composer.heats h (some { e with refs := e.refs + 1 }) } }
        (age < s.remnants.expiryCount → exec command s = .next { u with
          remnants := { s.remnants with records := put s.remnants.records i (some stocked) } }) ∧
        (s.remnants.expiryCount ≤ age → exec command s = .next { u.mark .remnant with
          remnants := { s.remnants with
            records := put s.remnants.records i (some { stocked with state := .expired })
            expired := insertAsc i s.remnants.expired
            expiries := bump s.remnants.expiries } })))

/-- R99, R101, R102, R103: REMNANT_FROM_BAY on a CUT bay gives its plate a remnant record IN_BAY, replaces the dimensions of the
record the plate names, or, with 0 by 0, makes that record VACANT. Every refusal changes nothing. -/
def Obligations.RemnantFromBayRecordsWhatIsLeft : Prop :=
  ∀ (tag : Byte) (b : BayIx) (width length : Nat) (s : State), s.Open →
    100 ≤ width ∧ width ≤ 4000 → 100 ≤ length ∧ length ≤ 16000 →
    let command := Instr.remnantFromBay tag (u8 (b.val + 1) ++ u16 width ++ u16 length)
    let consume := Instr.remnantFromBay tag (u8 (b.val + 1) ++ u16 0 ++ u16 0)
    let large := s.remnants.minDimension + 2 * s.remnants.margin ≤ width ∧ s.remnants.minDimension + 2 * s.remnants.margin ≤ length
    ((s.bay b).state ≠ .cut → exec command s = .next (s.answered (reply 0x62 tag .wrongState [])) ∧
      exec consume s = .next (s.answered (reply 0x62 tag .wrongState []))) ∧
    (∀ p : Plate, (s.bay b).state = .cut → (s.bay b).plate = some p →
      let inside := width ≤ p.width ∧ length ≤ p.length ∨ width ≤ p.length ∧ length ≤ p.width
      let named (i : Option RemnantIx) : BayTable := { s.bayTable with
        bays := put s.bayTable.bays b { s.bay b with plate := some { p with remnant := i } }
        changed := insertAsc b s.bayTable.changed }
      (¬ inside → exec command s = .next (s.answered (reply 0x62 tag .badField []))) ∧
      (inside → ¬ large → exec command s = .next (s.answered (reply 0x62 tag .tooSmall []))) ∧
      (∀ i r, inside → large → p.remnant = some i → s.remnant i = some r →
        let measured : Remnant := { r with
          rawWidth := width, rawLength := length, age := 0
          usableWidth := width - 2 * s.remnants.margin, usableLength := length - 2 * s.remnants.margin }
        exec command s = .next { s.answered (reply 0x62 tag .ok (u8 i.val)) with
          remnants := { s.remnants with records := put s.remnants.records i (some measured) } }) ∧
      (inside → large → p.remnant = none → (∀ i, s.remnant i ≠ none) →
        exec command s = .next (s.answered (reply 0x62 tag .tableFull []))) ∧
      (∀ i e, inside → large → p.remnant = none → s.remnant i = none → (∀ j, j < i → s.remnant j ≠ none) →
        s.heat p.heat = some e →
        let cut : Remnant := {
          state := .inBay, heat := p.heat, grade := p.grade, thickness := p.thickness, rawWidth := width, rawLength := length
          usableWidth := width - 2 * s.remnants.margin, usableLength := length - 2 * s.remnants.margin
          slot := none, bay := some b, crane := none, age := 0, tag := none }
        exec command s = .next { (s.answered (reply 0x62 tag .ok (u8 i.val))).mark .bay with
          bayTable := named (some i)
          composer := { s.composer with heats := put s.composer.heats p.heat (some { e with refs := e.refs + 1 }) }
          remnants := { s.remnants with records := put s.remnants.records i (some cut) } }) ∧
      (p.remnant = none → exec consume s = .next (s.answered (reply 0x62 tag .remnantState []))) ∧
      (∀ i r e, p.remnant = some i → s.remnant i = some r → s.heat r.heat = some e →
        exec consume s = .next { (s.answered (reply 0x62 tag .ok (u8 i.val))).mark .bay with
          bayTable := named none
          composer := { s.composer with heats := put s.composer.heats r.heat (some { e with refs := e.refs - 1 }) }
          remnants := { s.remnants with records := put s.remnants.records i none } }))

/-- R104, R109, R110: REMNANT_RESERVE takes a STOCKED record, REMNANT_UNRESERVE a RESERVED one, which may expire at once,
REMNANT_RENEW and REMNANT_DROP a STOCKED or EXPIRED one; any other state refuses with REMNANT_STATE and nothing changes. -/
def Obligations.RemnantRecordsChangeHands : Prop :=
  ∀ (tag : Byte) (i : RemnantIx) (mine : Nat) (s : State), s.Open → 1 ≤ mine ∧ mine ≤ 65535 →
    let reserve := Instr.remnantReserve tag (u8 i.val ++ u16 mine)
    let release := Instr.remnantUnreserve tag (u8 i.val)
    let renew := Instr.remnantRenew tag (u8 i.val)
    let drop := Instr.remnantDrop tag (u8 i.val)
    ((∀ r, s.remnant i = some r → r.state ≠ .stocked) →
      exec reserve s = .next (s.answered (reply 0x63 tag .remnantState []))) ∧
    ((∀ r, s.remnant i = some r → r.state ≠ .reserved) →
      exec release s = .next (s.answered (reply 0x64 tag .remnantState []))) ∧
    ((∀ r, s.remnant i = some r → r.state ≠ .stocked ∧ r.state ≠ .expired) →
      exec renew s = .next (s.answered (reply 0x65 tag .remnantState [])) ∧
      exec drop s = .next (s.answered (reply 0x69 tag .remnantState []))) ∧
    (∀ r, s.remnant i = some r →
      let records (x : Option Remnant) : RemnantTable := { s.remnants with records := put s.remnants.records i x }
      (r.state = .stocked → exec reserve s = .next { s.answered (reply 0x63 tag .ok []) with
        remnants := records (some { r with state := .reserved, tag := some mine }) }) ∧
      (r.state = .reserved → r.age < s.remnants.expiryCount → exec release s = .next { s.answered (reply 0x64 tag .ok []) with
        remnants := records (some { r with state := .stocked, tag := none }) }) ∧
      (r.state = .reserved → s.remnants.expiryCount ≤ r.age →
        exec release s = .next { (s.answered (reply 0x64 tag .ok [])).mark .remnant with
          remnants := { records (some { r with state := .expired, tag := none }) with
            expired := insertAsc i s.remnants.expired
            expiries := bump s.remnants.expiries } }) ∧
      (r.state = .stocked ∨ r.state = .expired →
        exec renew s = .next { s.answered (reply 0x65 tag .ok []) with
          remnants := records (some { r with state := .stocked, age := 0 }) } ∧
        ∀ e, s.heat r.heat = some e → exec drop s = .next { s.answered (reply 0x69 tag .ok []) with
          composer := { s.composer with heats := put s.composer.heats r.heat (some { e with refs := e.refs - 1 }) }
          remnants := records none }))

/-- R108, R109, R111: the aging timer's expiry ages every STOCKED record by 1, at most to 255, and starts the timer again; that a
stopped one does not expire is notes/assumptions/15. REMNANT_SET replaces the four values and the timer where its period changes.
After either, every STOCKED record whose age reaches the expiry count is EXPIRED, is in the expired set and has marked REMNANT; no
other record changes. -/
def Obligations.StockAgesAndExpires : Prop :=
  let expires (limit : Nat) (r : Remnant) : Remnant := if r.state = .stocked ∧ limit ≤ r.age then { r with state := .expired } else r
  (∀ (left : Nat) (s : State), s.remnants.agingTimer = some left → ∃ t, exec .agingTimerExpiry s = .next t ∧
    (∀ i, t.remnant i = (s.remnant i).map (fun r =>
      expires s.remnants.expiryCount (if r.state = .stocked then { r with age := min 255 (r.age + 1) } else r))) ∧
    (∀ i, i ∈ t.remnants.expired ↔ i ∈ s.remnants.expired ∨
      ∃ r, s.remnant i = some r ∧ r.state = .stocked ∧ s.remnants.expiryCount ≤ min 255 (r.age + 1)) ∧
    t.remnants.agingTimer = (if s.remnants.agingPeriod = 0 then none else some (s.remnants.agingPeriod * 60000)) ∧
    ((∃ i r, s.remnant i = some r ∧ r.state = .stocked ∧ s.remnants.expiryCount ≤ min 255 (r.age + 1)) →
      (t.notice .remnant).pending = true) ∧
    s.ChangesOnly [.remnants, .notices] t) ∧
  (∀ s : State, s.remnants.agingTimer = none → exec .agingTimerExpiry s = .next s) ∧
  (∀ (tag : Byte) (margin minDimension period count : Nat) (s : State), s.Open →
    margin < 256 → minDimension < 65536 → period < 65536 → count < 256 →
    ¬ (margin ≤ 100 ∧ 100 ≤ minDimension ∧ minDimension ≤ 1000 ∧ period ≤ 1440 ∧ 1 ≤ count) →
    exec (.remnantSet tag (u8 margin ++ u16 minDimension ++ u16 period ++ u8 count)) s =
      .next (s.answered (reply 0x68 tag .badField []))) ∧
  (∀ (tag : Byte) (margin minDimension period count : Nat) (s : State), s.Open → margin ≤ 100 →
    100 ≤ minDimension ∧ minDimension ≤ 1000 → period ≤ 1440 → 1 ≤ count ∧ count ≤ 255 →
    ∃ t, exec (.remnantSet tag (u8 margin ++ u16 minDimension ++ u16 period ++ u8 count)) s = .next t ∧
      s.Replied t (reply 0x68 tag .ok []) ∧
      t.remnants = { s.remnants with
        margin, minDimension, agingPeriod := period, expiryCount := count
        agingTimer :=
          if period = s.remnants.agingPeriod then s.remnants.agingTimer
          else if period = 0 then none else some (period * 60000)
        records := t.remnants.records, expired := t.remnants.expired, expiries := t.remnants.expiries } ∧
      (∀ i, t.remnant i = (s.remnant i).map (expires count)) ∧
      (∀ i, i ∈ t.remnants.expired ↔ i ∈ s.remnants.expired ∨
        ∃ r, s.remnant i = some r ∧ r.state = .stocked ∧ count ≤ r.age) ∧
      ((∃ i r, s.remnant i = some r ∧ r.state = .stocked ∧ count ≤ r.age) → (t.notice .remnant).pending = true) ∧
      s.ChangesOnly [.link, .receivers, .remnants, .notices] t)

/-! ## Orders -/

/-- R23, R117, R118, R119, R120, R121, R122: ORDER_SUBMIT of every kind, tested in order and refused, and counted, at its first
failure. Accepted in hall PARK or PAUSE it takes the next number, claims its places and waits at the tail of its list: a load order
with the load record built from its plate fields or remnant record and a reference added to the heat, an unload with its source bay
UNLOADING, a DELIVER with the hook load record of its crane. A wrong length is refused without being counted
(notes/assumptions/36). -/
def Obligations.OrderSubmitTakesOrRefusesAnOrder : Prop :=
  (∀ (tag : Byte) (f : SubmissionFields) (s : State), s.Open → f.Fit →
    (¬ f.InRange → exec (.orderSubmit tag f.body) s = .next (s.refusal tag .badField)) ∧
    (f.InRange → 16 ≤ s.dispatcher.orders.length → exec (.orderSubmit tag f.body) s = .next (s.refusal tag .queueFull))) ∧
  (∀ (tag : Byte) (body : List Byte) (s : State), s.Open → body.length ≠ 13 →
    exec (.orderSubmit tag body) s = .next (s.answered (reply 0x71 tag .badLength []))) ∧
  (∀ (tag : Byte) (cls : OrderClass) (choice : CraneChoice) (b : BayIx) (h : HeatIx) (thickness width length : Nat) (s : State),
    s.Open → 3 ≤ thickness ∧ thickness ≤ 150 → 500 ≤ width ∧ width ≤ 4000 → 1000 ≤ length ∧ length ≤ 16000 →
    s.dispatcher.orders.length < 16 →
    let command := Instr.orderSubmit tag (u8 0 ++ u8 cls.code ++ u8 choice.code ++ Site.intake.bytes ++ (Site.bay b).bytes ++
      u8 h.val ++ u8 thickness ++ u16 width ++ u16 length)
    let mass := kilograms width length thickness
    let reaches (c : CraneId) := s.Reaches c .intake ∧ s.Reaches c (.bay b)
    (s.heat h = none → exec command s = .next (s.refusal tag .unknownHeat)) ∧
    (∀ e, s.heat h = some e →
      (e.state = .closed → exec command s = .next (s.refusal tag .heatClosed)) ∧
      (∀ code, e.state = .active → s.DestFails (.bay b) code → exec command s = .next (s.refusal tag code)) ∧
      (e.state = .active → (s.bay b).state = .empty → (∀ c, ¬ s.Lifts choice mass c) →
        exec command s = .next (s.refusal tag .overweight)) ∧
      (e.state = .active → (s.bay b).state = .empty → (∃ c, s.Lifts choice mass c) →
        (∀ c, s.Lifts choice mass c → ¬ reaches c) → exec command s = .next (s.refusal tag .noCrane)) ∧
      (e.state = .active → (s.bay b).state = .empty → (∃ c, s.Lifts choice mass c ∧ reaches c) →
        s.hall.state = .park ∨ s.hall.state = .pause → ∃ t, exec command s = .next t ∧
        s.Accepts t tag {
          number := s.dispatcher.counter, kind := .loadNew, state := .queued, suspendedPhase := none, cls, promoted := false
          choice, source := .intake, dest := .bay b, load := some ⟨h, e.grade, thickness, width, length, none⟩, mass
          crane := none, queuedMs := some 0, priorBay := none, priorRemnant := none } ∧
        t.bayTable = s.bayTable.claimed b .loading s.dispatcher.counter ∧ s.Marked t [.bay] ∧
        t.composer = { s.composer with heats := put s.composer.heats h (some { e with refs := e.refs + 1 }) } ∧
        t.remnants = s.remnants))) ∧
  (∀ (tag : Byte) (kind : OrderKind) (cls : OrderClass) (choice : CraneChoice) (b : BayIx) (dest : Site) (p : Plate) (s : State),
    s.Open → s.dispatcher.orders.length < 16 → (s.bay b).plate = some p →
    (kind = .unloadToRack ∧ ∃ k, dest = .rack k) ∨ kind = .unloadToOffload ∧ dest = .offload →
    let command := submits tag kind cls choice (.bay b) dest
    let mass :=
      match p.remnant.bind s.remnant with
      | some r => kilograms r.rawWidth r.rawLength r.thickness
      | none => kilograms p.width p.length p.thickness
    let reaches (c : CraneId) := s.Reaches c (.bay b) ∧ s.Reaches c dest
    let may := (s.bay b).state = .placed ∨ (s.bay b).state = .ready ∨ (s.bay b).state = .mismatch ∨ (s.bay b).state = .cut
    (¬ may → exec command s = .next (s.refusal tag .bayNotReady)) ∧
    (may → kind = .unloadToRack → p.remnant = none → exec command s = .next (s.refusal tag .remnantState)) ∧
    (may → (kind = .unloadToRack → p.remnant ≠ none) →
      (∀ code, s.DestFails dest code → exec command s = .next (s.refusal tag code)) ∧
      (s.DestOpen dest → (∀ c, ¬ s.Lifts choice mass c) → exec command s = .next (s.refusal tag .overweight)) ∧
      (s.DestOpen dest → (∃ c, s.Lifts choice mass c) → (∀ c, s.Lifts choice mass c → ¬ reaches c) →
        exec command s = .next (s.refusal tag .noCrane)) ∧
      (s.DestOpen dest → (∃ c, s.Lifts choice mass c ∧ reaches c) → s.hall.state = .park ∨ s.hall.state = .pause →
        ∃ t, exec command s = .next t ∧
        s.Accepts t tag {
          number := s.dispatcher.counter, kind, state := .queued, suspendedPhase := none, cls, promoted := false
          choice, source := .bay b, dest, load := none, mass, crane := none
          queuedMs := some 0, priorBay := some (s.bay b).state, priorRemnant := none } ∧
        t.bayTable = s.bayTable.claimed b .unloading s.dispatcher.counter ∧ s.Marked t [.bay] ∧
        t.composer = s.composer ∧ t.remnants = s.remnants))) ∧
  (∀ (tag : Byte) (kind : OrderKind) (cls : OrderClass) (choice : CraneChoice) (k : Slot) (dest : Site) (s : State),
    s.Open → s.dispatcher.orders.length < 16 →
    (kind = .loadRemnant ∧ ∃ b, dest = .bay b) ∨ (kind = .restock ∧ ∃ j, dest = .rack j) ∨
      kind = .scrapRemnant ∧ dest = .offload →
    let command := submits tag kind cls choice (.rack k) dest
    ((∀ i r, s.remnant i = some r → r.slot ≠ some k) → exec command s = .next (s.refusal tag .remnantState)) ∧
    (∀ i r, s.remnant i = some r → r.slot = some k → (∀ j q, s.remnant j = some q → q.slot = some k → j = i) →
      let mass := kilograms r.rawWidth r.rawLength r.thickness
      let reaches (c : CraneId) := s.Reaches c (.rack k) ∧ s.Reaches c dest
      let closed := kind = .loadRemnant ∧ ∃ e, s.heat r.heat = some e ∧ e.state = .closed
      let takes := r.state = .stocked ∨ r.state = (if kind = .loadRemnant then .reserved else .expired)
      (closed → exec command s = .next (s.refusal tag .heatClosed)) ∧
      (¬ closed → ¬ takes → exec command s = .next (s.refusal tag .remnantState)) ∧
      (¬ closed → takes →
        (∀ code, s.DestFails dest code → exec command s = .next (s.refusal tag code)) ∧
        (s.DestOpen dest → (∀ c, ¬ s.Lifts choice mass c) → exec command s = .next (s.refusal tag .overweight)) ∧
        (s.DestOpen dest → (∃ c, s.Lifts choice mass c) → (∀ c, s.Lifts choice mass c → ¬ reaches c) →
          exec command s = .next (s.refusal tag .noCrane)) ∧
        (s.DestOpen dest → (∃ c, s.Lifts choice mass c ∧ reaches c) → s.hall.state = .park ∨ s.hall.state = .pause →
          ∃ t, exec command s = .next t ∧
          s.Accepts t tag {
            number := s.dispatcher.counter, kind, state := .queued, suspendedPhase := none, cls, promoted := false
            choice, source := .rack k, dest, mass, crane := none
            load := some ⟨r.heat, r.grade, r.thickness, r.rawWidth, r.rawLength, some i⟩
            queuedMs := some 0, priorBay := none, priorRemnant := some r.state } ∧
          t.bayTable = s.bayTable.withDest dest s.dispatcher.counter ∧ s.Marked t (destMarks dest) ∧
          t.composer = { s.composer with
            heats := put s.composer.heats r.heat ((s.heat r.heat).map (fun e => { e with refs := e.refs + 1 })) } ∧
          t.remnants = { s.remnants with records := put s.remnants.records i (some { r with state := .called }) })))) ∧
  (∀ (tag : Byte) (cls : OrderClass) (c : CraneId) (dest : Site) (s : State), s.Open → s.dispatcher.orders.length < 16 →
    (∃ b, dest = .bay b) ∨ (∃ k, dest = .rack k) ∨ dest = .offload →
    let command := submits tag .deliver cls (.only c) .hook dest
    let stands := (s.crane c).state = .stranded ∧ ∀ o ∈ s.dispatcher.orders, ¬ (o.kind = .deliver ∧ o.crane = some c)
    (¬ stands → exec command s = .next (s.refusal tag .wrongState)) ∧
    (∀ r, stands → (s.crane c).hook = some r →
      let mass :=
        match r.remnant.bind s.remnant with
        | some q => kilograms q.rawWidth q.rawLength q.thickness
        | none => kilograms r.width r.length r.thickness
      let fits := s.DestOpen dest ∧ ∀ k, dest = .rack k → r.remnant ≠ none
      (∀ code, s.DestFails dest code → exec command s = .next (s.refusal tag code)) ∧
      (∀ k, dest = .rack k → s.SlotFree k → r.remnant = none → exec command s = .next (s.refusal tag .remnantState)) ∧
      (fits → s.settings.swl.get c < mass → exec command s = .next (s.refusal tag .overweight)) ∧
      (fits → mass ≤ s.settings.swl.get c → ¬ s.Reaches c dest → exec command s = .next (s.refusal tag .noCrane)) ∧
      (fits → mass ≤ s.settings.swl.get c → s.Reaches c dest → s.hall.state = .park ∨ s.hall.state = .pause →
        ∃ t, exec command s = .next t ∧
        s.Accepts t tag {
          number := s.dispatcher.counter, kind := .deliver, state := .queued, suspendedPhase := none, cls, promoted := false
          choice := .only c, source := .hook, dest, load := some r, mass, crane := some c
          queuedMs := some 0, priorBay := none, priorRemnant := none } ∧
        t.bayTable = s.bayTable.withDest dest s.dispatcher.counter ∧ s.Marked t (destMarks dest) ∧
        t.composer = s.composer ∧ t.remnants = s.remnants)))

/-- R123, R124, R131, R132: ORDER_CANCEL ends a QUEUED order, an ASSIGNED one or one SUSPENDED in ASSIGNED as CANCELLED, with its
bays, its remnant record and the reference of its load record given back. The crane of an ASSIGNED order is halted and becomes
IDLE, that of a SUSPENDED one keeps its state, and a DELIVER's keeps its load and takes its end (notes/assumptions/55); a loaded
order is refused. ORDER_REDIRECT gives a CARRYING order another bay, rack slot or OFFLOAD: its claims move, its crane makes for it;
in any other state, or at its first failed test, it is refused. -/
def Obligations.OrdersAreCancelledAndRedirected : Prop :=
  ∀ (tag : Byte) (n : Nat) (newDest : Site) (s : State), s.Open → 1 ≤ n ∧ n ≤ 65535 →
    let cancel := Instr.orderCancel tag (u16 n)
    let redirect := Instr.orderRedirect tag (u16 n ++ newDest.bytes)
    let cancelled (t : State) (o : Order) := exec cancel s = .next t ∧ s.Replied t (reply 0x72 tag .ok []) ∧ s.GivesBack t o ∧
      t.dispatcher = { s.dispatcher.without ⟨n, o.kind, .cancelled, some .host, o.crane⟩ with
        cancelled := bump s.dispatcher.cancelled }
    let held (c : CraneId) (o : Order) : Crane := { s.crane c with
      order := none, lastEnded := some ⟨n, o.kind, .cancelled, some .host, some c⟩ }
    exec (.orderCancel tag (u16 0)) s = .next (s.answered (reply 0x72 tag .badField [])) ∧
    (∀ place slot : Nat, place < 256 → slot < 256 → place < 2 ∨ ¬ slotMatches place slot →
      exec (.orderRedirect tag (u16 n ++ u8 place ++ u8 slot)) s = .next (s.answered (reply 0x73 tag .badField []))) ∧
    (s.order n = none → (∀ e ∈ s.dispatcher.history, e.number ≠ n) →
      exec cancel s = .next (s.answered (reply 0x72 tag .unknownOrder [])) ∧
      (newDest ≠ .hook → newDest ≠ .intake → exec redirect s = .next (s.answered (reply 0x73 tag .unknownOrder [])))) ∧
    (s.order n = none → (∃ e ∈ s.dispatcher.history, e.number = n) →
      exec cancel s = .next (s.answered (reply 0x72 tag .wrongState [])) ∧
      (newDest ≠ .hook → newDest ≠ .intake → exec redirect s = .next (s.answered (reply 0x73 tag .wrongState [])))) ∧
    (∀ o : Order, s.order n = some o →
      (o.state = .lifting ∨ o.state = .carrying ∨ o.state = .lowering ∨ o.state = .suspended ∧
        (o.suspendedPhase = some .lifting ∨ o.suspendedPhase = some .carrying ∨ o.suspendedPhase = some .lowering) →
        exec cancel s = .next (s.answered (reply 0x72 tag .orderLoaded []))) ∧
      (o.state ≠ .carrying → newDest ≠ .hook → newDest ≠ .intake →
        exec redirect s = .next (s.answered (reply 0x73 tag .wrongState []))) ∧
      (∀ b r e, o.state = .queued → o.kind = .loadNew → o.crane = none → o.dest = .bay b → o.source = .intake →
        o.load = some r → (s.bay b).state = .loading → (s.bay b).claim = some n → s.heat r.heat = some e →
        s.NothingToDispatch →
        exec cancel s = .next { (s.answered (reply 0x72 tag .ok [])).mark .bay with
          bayTable := { s.bayTable with
            bays := put s.bayTable.bays b (Bay.toEmpty (s.bay b))
            changed := insertAsc b s.bayTable.changed }
          composer := { s.composer with heats := put s.composer.heats r.heat (some { e with refs := e.refs - 1 }) }
          dispatcher := { s.dispatcher.without ⟨n, .loadNew, .cancelled, some .host, none⟩ with
            cancelled := bump s.dispatcher.cancelled } }) ∧
      (o.state = .queued → o.crane = none → s.NothingToDispatch → ∃ t, cancelled t o ∧
        s.ChangesOnly [.link, .notices, .receivers, .bays, .composer, .remnants, .dispatcher] t) ∧
      (∀ c, o.state = .queued → o.kind = .deliver → o.crane = some c → (s.crane c).order = none → s.NothingToDispatch →
        ∃ t, cancelled t o ∧ t.cranes = s.cranes.put c (held c o) ∧ (t.notice (.crane c)).pending = true ∧
          s.ChangesOnly [.link, .notices, .receivers, .bays, .remnants, .dispatcher, .cranes] t) ∧
      (∀ c, o.state = .assigned → o.crane = some c → (s.crane c).order = some n → s.hall.state = .pause →
        ∃ t, cancelled t o ∧ t.sent = s.sent ++ [.crane c .halt] ∧
          t.cranes = s.cranes.put c { held c o with state := .idle, goal := none, waitCause := none, stopCause := none } ∧
          (t.notice (.crane c)).pending = true ∧
          s.ChangesOnly [.link, .notices, .receivers, .bays, .composer, .remnants, .dispatcher, .cranes, .sent] t) ∧
      (∀ c, o.state = .suspended → o.suspendedPhase = some .assigned → o.crane = some c → (s.crane c).order = some n →
        s.NothingToDispatch → ∃ t, cancelled t o ∧ t.cranes = s.cranes.put c (held c o) ∧
          (t.notice (.crane c)).pending = true ∧
          s.ChangesOnly [.link, .notices, .receivers, .bays, .composer, .remnants, .dispatcher, .cranes] t) ∧
      (∀ c, o.state = .carrying → o.crane = some c → newDest ≠ .hook → newDest ≠ .intake →
        let may := o.kind.Admits newDest ∧ newDest ≠ o.dest
        let named := ∀ k, newDest = .rack k → ∃ r, o.load = some r ∧ r.remnant ≠ none
        let mine := [(s.crane c).position, s.layout.position newDest]
        (¬ may → exec redirect s = .next (s.answered (reply 0x73 tag .badField []))) ∧
        (∀ code, may → s.DestFails newDest code → exec redirect s = .next (s.answered (reply 0x73 tag code []))) ∧
        (may → s.DestOpen newDest → ¬ named → exec redirect s = .next (s.answered (reply 0x73 tag .remnantState []))) ∧
        (may → s.DestOpen newDest → named → ¬ s.Reaches c newDest → exec redirect s = .next (s.answered (reply 0x73 tag .noCrane []))) ∧
        (may → s.DestOpen newDest → named → s.Reaches c newDest → ¬ s.SpansApart c mine → (∀ y, ¬ s.YieldsTo c mine y) →
          exec redirect s = .next (s.answered (reply 0x73 tag .spanBlocked []))) ∧
        (may → s.DestOpen newDest → named → s.Reaches c newDest →
          (s.crane c).state = .travel → (s.crane c.other).target = none → (s.crane c.other).order = none →
          s.ReportsAlone c (s.crane c).position → s.ReportsAlone c (s.layout.position newDest) →
          ∃ t, exec redirect s = .next t ∧ s.Replied t (reply 0x73 tag .ok []) ∧
            t.order n = some { o with dest := newDest } ∧
            (∀ b, newDest = .bay b → t.bay b = { s.bay b with state := .loading, claim := some n }) ∧
            (∀ b, o.dest = .bay b → (s.bay b).state = .loading → (s.bay b).claim = some n → t.bay b = Bay.toEmpty (s.bay b)) ∧
            (∀ b, newDest ≠ .bay b → o.dest ≠ .bay b → t.bay b = s.bay b) ∧
            (t.crane c).state = .travel ∧ (t.crane c).goal = some ⟨s.layout.position newDest, .order⟩ ∧
            t.crane c.other = s.crane c.other ∧ (t.notice (.crane c)).pending = true ∧
            s.ChangesOnly [.link, .notices, .receivers, .bays, .dispatcher, .cranes, .sent] t)))

/-- R125 to R130, R134, R138, R139: CRANE_SET replaces the settings whole, in hall PARK alone and with a layout and park positions
that fit them; cranes that are not parked or parking are not moved; a setting out of range is refused BAD_FIELD. ORDER_PROMOTION of
an order of the normal list brings its queued time, and that of every older one of the list, to the aging time and promotes them to
the tail of the urgent list, oldest first; with the aging time 0, or outside that list, nothing is promoted (both
notes/assumptions/16). In PURGE and RUN a dispatch pass follows, once, from the lists as the promotions leave them
(notes/assumptions/7): R128 gives the order, R129 the crane, and R130 its start, with a yield of the other crane sent before its
own GOTO. -/
def Obligations.CraneSettingsAndPromotion : Prop :=
  (∀ (tag : Byte) (separation margin swl1 swl2 reach1 reach2 mode limit aging park1 park2 : Nat) (preference : List Byte)
    (s : State), s.Open → separation < 65536 → margin < 65536 → swl1 < 65536 → swl2 < 65536 → reach1 < 65536 → reach2 < 65536 →
    mode < 256 → preference.length = 14 → limit < 256 → aging < 65536 → park1 < 2 ^ 32 → park2 < 2 ^ 32 →
    ¬ (2000 ≤ separation ∧ separation ≤ 30000 ∧ margin ≤ 5000 ∧ 1000 ≤ swl1 ∧ swl1 ≤ 60000 ∧ 1000 ≤ swl2 ∧ swl2 ≤ 60000 ∧
      1 ≤ reach1 ∧ reach1 < 2 ^ 14 ∧ 1 ≤ reach2 ∧ reach2 < 2 ^ 14 ∧ mode ≤ 1 ∧ (∀ c ∈ preference, c = 1 ∨ c = 2) ∧
      1 ≤ limit ∧ limit ≤ 8 ∧ (aging = 0 ∨ 30 ≤ aging ∧ aging ≤ 1800) ∧ park1 ≤ 250000 ∧ park2 ≤ 250000) →
    exec (.craneSet tag (u16 separation ++ u16 margin ++ u16 swl1 ++ u16 swl2 ++ u16 reach1 ++ u16 reach2 ++ u8 mode ++
      preference ++ u8 limit ++ u16 aging ++ u32 park1 ++ u32 park2)) s = .next (s.answered (reply 0x78 tag .badField []))) ∧
  (∀ (tag : Byte) (new : CraneSettings) (s : State), s.Open → new.InRange →
    let fits := s.layout.Meets new.margin new.park ∧ new.park.c1 + new.separation ≤ new.park.c2
    (s.hall.state ≠ .park → exec (.craneSet tag new.body) s = .next (s.answered (reply 0x78 tag .wrongState []))) ∧
    (s.hall.state = .park → ¬ fits → exec (.craneSet tag new.body) s = .next (s.answered (reply 0x78 tag .badField []))) ∧
    (s.hall.state = .park → fits → (new.agingTime = 0 ∨ s.dispatcher.normal = []) →
      (∀ c, new.park.get c = s.settings.park.get c ∨
        (s.crane c).state ≠ .parked ∧ (s.crane c).state ≠ .travel ∧ (s.crane c).state ≠ .wait) →
      exec (.craneSet tag new.body) s = .next { s.answered (reply 0x78 tag .ok []) with
        dispatcher := { s.dispatcher with settings := new } })) ∧
  (∀ (n : Nat) (s : State), s.Settled → s.settings.agingTime = 0 ∨ n ∉ s.dispatcher.normal →
    exec (.orderPromotion n) s = .next s) ∧
  (∀ (n : Nat) (s : State), s.Settled → s.settings.agingTime ≠ 0 → n ∈ s.dispatcher.normal →
    let due := s.dispatcher.normal.takeWhile (· ≠ n) ++ [n]
    let promoted : State := { s with
      dispatcher := { s.dispatcher with
        normal := s.dispatcher.normal.filter (· ∉ due)
        urgent := s.dispatcher.urgent ++ due
        promotions := min 65535 (s.dispatcher.promotions + due.length)
        orders := s.dispatcher.orders.map (fun o =>
          if o.number ∈ due then
            { o with promoted := true, queuedMs := o.queuedMs.map (fun t => max t (s.settings.agingTime * 1000)) }
          else o) } }
    (s.hall.state = .park ∨ s.hall.state = .pause → exec (.orderPromotion n) s = .next promoted) ∧
    (s.hall.state = .purge ∨ s.hall.state = .run →
      (promoted.NoneEligible promoted.dispatcher.urgent → promoted.NoneEligible promoted.dispatcher.normal →
        exec (.orderPromotion n) s = .next promoted) ∧
      (∀ o c run, promoted.Chooses o run → promoted.ChoosesCrane o c →
        (promoted.SpansApart c (promoted.spanWith c o) → (s.crane c.other).state = .hoist ∨ (s.crane c.other).state = .parked ∨
          (s.crane c.other).state = .stopped ∨ (s.crane c.other).state = .offline) →
        ∃ t, exec (.orderPromotion n) s = .next t ∧ promoted.Dispatched t o c run)))

/-! ## Cranes -/

/-- R140: where the bounds do not exclude one another (else notes/assumptions/1), a GOTO goes to the needed position held within
every bound: on the runway, S off the other crane's position and target, and, for a loaded crane, short of the widened interval of
every BURNING bay in its way. A target that is not the needed position is counted. -/
def Obligations.TargetsStayWithinTheirBounds : Prop :=
  ∀ (s : State) (c : CraneId) (needed : Nat) (purpose : Purpose), (s.crane c).goal = some ⟨needed, purpose⟩ →
    (s.bounds c needed).low ≤ (s.bounds c needed).high →
    ∃ p : Nat, (s.sendGoto c).sent = s.sent ++ [.crane c (.goto p)] ∧ ((s.sendGoto c).crane c).target = some p ∧
      (p : Int) = max (s.bounds c needed).low (min (s.bounds c needed).high needed) ∧
      p ≤ s.layout.runwayEnd ∧
      (c = .c1 → p + s.settings.separation ≤ (s.crane .c2).position ∧
        ∀ q, (s.crane .c2).target = some q → p + s.settings.separation ≤ q) ∧
      (c = .c2 → (s.crane .c1).position + s.settings.separation ≤ p ∧
        ∀ q, (s.crane .c1).target = some q → q + s.settings.separation ≤ p) ∧
      (∀ b, (s.crane c).hook ≠ none → (s.bay b).state = .burning →
        let west : Int := (s.layout.bays.get b).first - s.settings.margin
        let east : Int := (s.layout.bays.get b).last + s.settings.margin
        ((s.crane c).position < needed → west ≤ needed → ((s.crane c).position : Int) ≤ east → (p : Int) < west) ∧
        (needed < (s.crane c).position → west ≤ (s.crane c).position → (needed : Int) ≤ east → east < (p : Int))) ∧
      ((s.sendGoto c).crane c).clippedTargets =
        (if p = needed then (s.crane c).clippedTargets else bump (s.crane c).clippedTargets) ∧
      s.ChangesOnly [.cranes, .sent] (s.sendGoto c)

/-- R135, R148, R149: CRANE_RESUME and CRANE_CLEAR need a STOPPED crane; CRANE_RESUME is refused too while any of its conditions
stands, an order suspended in LIFTING counting as one in LIFTING there (notes/assumptions/22). A crane without an order becomes
IDLE, or STRANDED with its load; one whose order was suspended in LIFTING hoists again. CRANE_CLEAR ends the order FAILED with
cause CLEARED, its load staying on the hook. The state left with its stop cause is one CRANE marking (notes/assumptions/26). -/
def Obligations.StoppedCranesResumeOrAreCleared : Prop :=
  ∀ (tag : Byte) (c : CraneId) (s : State), s.Open →
    let resume := Instr.craneResume tag (u8 (craneNumber c))
    let clear := Instr.craneClear tag (u8 (craneNumber c))
    let k := s.crane c
    let rest : CraneState := if k.hook = none then .idle else .stranded
    let lifting := ∃ n o, k.order = some n ∧ s.order n = some o ∧
      (o.state = .lifting ∨ o.state = .suspended ∧ o.suspendedPhase = some .lifting)
    let free := k.drive = 0 ∧ s.overloadActive c = false ∧ s.hallStopActive = false ∧ ¬ s.CranesTooClose ∧
      (k.hookLoaded = true → k.hook = none → lifting)
    (k.state ≠ .stopped → exec resume s = .next (s.answered (reply 0x76 tag .wrongState [])) ∧
      exec clear s = .next (s.answered (reply 0x77 tag .wrongState []))) ∧
    (k.state = .stopped → ¬ free → exec resume s = .next (s.answered (reply 0x76 tag .wrongState []))) ∧
    (k.state = .stopped → free → k.order = none → s.hall.state ≠ .park → s.NothingToDispatch →
      exec resume s = .next { (s.answered (reply 0x76 tag .ok [])).mark (.crane c) with
        cranes := s.cranes.put c { k with state := rest, goal := none, waitCause := none, stopCause := none } }) ∧
    (∀ n o, k.state = .stopped → free → k.order = some n → s.order n = some o → o.state = .suspended →
      o.suspendedPhase = some .lifting → s.NothingToDispatch →
      exec resume s = .next { (s.answered (reply 0x76 tag .ok [])).mark (.crane c) with
        sent := s.sent ++ [.crane c (if k.withdrawn then .hoistSet else .hoistPick)]
        dispatcher := { s.dispatcher with orders := s.dispatcher.orders.map (fun o =>
          if o.number = n then { o with state := .lifting, suspendedPhase := none } else o) }
        cranes := s.cranes.put c { k with
          state := .hoist, waitCause := none, stopCause := none, hoistTimer := some 120000 } }) ∧
    (k.state = .stopped → k.order = none → s.hall.state ≠ .park → s.NothingToDispatch →
      exec clear s = .next { (s.answered (reply 0x77 tag .ok [])).mark (.crane c) with
        cranes := s.cranes.put c { k with
          state := rest, goal := none, waitCause := none, stopCause := none, withdrawn := false } }) ∧
    (∀ n o, k.state = .stopped → k.order = some n → s.order n = some o → o.crane = some c → o.dest = .offload →
      o.state = .suspended → o.suspendedPhase = some .carrying ∨ o.suspendedPhase = some .lowering →
      s.hall.state ≠ .park → s.NothingToDispatch → ∃ t, exec clear s = .next t ∧
      s.Replied t (reply 0x77 tag .ok []) ∧
      t.cranes = s.cranes.put c { k with
        state := rest, goal := none, waitCause := none, stopCause := none, withdrawn := false, order := none
        lastEnded := some ⟨n, o.kind, .failed, some .cleared, some c⟩ } ∧
      t.dispatcher = { s.dispatcher.without ⟨n, o.kind, .failed, some .cleared, some c⟩ with
        failed := bump s.dispatcher.failed } ∧
      (t.notice (.crane c)).pending = true ∧ s.ChangesOnly [.link, .notices, .receivers, .dispatcher, .cranes] t)

/-- R141, R143, R144, R145, R150: ARRIVED at the needed position lifts, sets down, waits for a guard, ends a yield or parks; at a
clipped target the crane waits, with the cause its clip was given when the target was computed (notes/assumptions/50), its state
and wait cause changing in one CRANE marking (notes/assumptions/26); elsewhere it is a stray, each ARRIVED being a position report
(notes/assumptions/24). PICKED puts the load on the hook and makes for the destination. Lifted from a bay, the load is the plate
record of the bay, which becomes EMPTY, with the dimensions entered into the remnant record the plate names, which becomes MOVING
(R9, R106, R114, notes/assumptions/62). SET_DOWN ends the order DONE; from a crane not hoisting both are strays. -/
def Obligations.CraneReportsCarryTheOrder : Prop :=
  ∀ (c : CraneId) (n : Nat) (o : Order) (s : State), s.Settled → s.NothingToDispatch →
    let k := { s.crane c with silenceTimer := some 500 }
    let inHand := k.order = some n ∧ s.order n = some o
    let goesOn (state : OrderState) (k : Crane) (m : List Sent) : State := { s.mark (.crane c) with
      receivers := s.receivers.set (.crane c) .hunt
      dispatcher := s.dispatcher.withOrderState n state
      cranes := s.cranes.put c k
      sent := s.sent ++ m }
    let stray (k : Crane) : State := { s with
      receivers := s.receivers.set (.crane c) .hunt, cranes := s.cranes.put c { k with strays := bump k.strays } }
    (∀ p : BitVec 32, s.ReportsAlone c p.toNat →
      let here := { k with position := p.toNat }
      let hoists := { here with state := .hoist, waitCause := none, stopCause := none, hoistTimer := some 120000 }
      let guarded := ∃ b, o.dest = .bay b ∧ s.guardActive b = true
      (k.state = .travel → k.target = some p.toNat → k.goal = some ⟨p.toNat, .order⟩ → inHand →
        (o.state = .assigned → exec (.arrived c p) s = .next (goesOn .lifting hoists [.crane c .hoistPick])) ∧
        (o.state = .carrying → ¬ guarded → exec (.arrived c p) s = .next (goesOn .lowering hoists [.crane c .hoistSet])) ∧
        (o.state = .carrying → guarded → exec (.arrived c p) s =
          .next (goesOn .lowering { here with state := .wait, waitCause := some .guard, stopCause := none } []))) ∧
      (∀ q purpose cause, k.state = .travel → k.target = some p.toNat → k.goal = some ⟨q, purpose⟩ → q ≠ p.toNat →
        k.clip = some cause → exec (.arrived c p) s = .next { s.mark (.crane c) with
          receivers := s.receivers.set (.crane c) .hunt
          cranes := s.cranes.put c { here with state := .wait, waitCause := some cause } }) ∧
      (k.state = .yielding → k.target = some p.toNat → k.goal = some ⟨p.toNat, .yield⟩ → s.hall.state ≠ .park →
        exec (.arrived c p) s = .next { s.mark (.crane c) with
          receivers := s.receivers.set (.crane c) .hunt
          cranes := s.cranes.put c { here with state := .idle, goal := none, waitCause := none, stopCause := none } }) ∧
      (k.state = .travel → k.target = some p.toNat → k.goal = some ⟨p.toNat, .park⟩ →
        exec (.arrived c p) s = .next { s.mark (.crane c) with
          receivers := s.receivers.set (.crane c) .hunt
          cranes := s.cranes.put c { here with state := .parked, goal := none, waitCause := none, stopCause := none } }) ∧
      (k.target ≠ some p.toNat ∨ k.state ≠ .travel ∧ k.state ≠ .yielding → k.state ≠ .wait →
        exec (.arrived c p) s = .next (stray here))) ∧
    (k.state ≠ .hoist → exec (.picked c) s = .next (stray k) ∧ exec (.setDown c) s = .next (stray k)) ∧
    (k.state = .hoist → inHand → o.state = .lifting → k.withdrawn = false → o.source = .intake →
      (∀ r, o.load = some r → r.remnant = none) →
      (s.crane c.other).state ≠ .travel → (s.crane c.other).state ≠ .yielding → (s.crane c.other).state ≠ .wait →
      ∃ t, exec (.picked c) s = .next t ∧ (t.crane c).hook = o.load ∧ (t.crane c).hoistTimer = none ∧
        (t.crane c).state = .travel ∧ (t.crane c).goal = some ⟨s.layout.position o.dest, .order⟩ ∧
        (∃ target, (t.crane c).target = some target ∧ t.sent = s.sent ++ [.crane c (.goto target)]) ∧
        t.order n = some { o with state := .carrying, priorBay := none, priorRemnant := none } ∧
        t.crane c.other = s.crane c.other ∧ (t.notice (.crane c)).pending = true ∧
        s.ChangesOnly [.receivers, .notices, .dispatcher, .cranes, .sent] t) ∧
    (∀ b p, k.state = .hoist → inHand → o.state = .lifting → k.withdrawn = false → o.source = .bay b →
      (s.bay b).plate = some p → (∀ i, p.remnant = some i → s.remnant i ≠ none) →
      (s.crane c.other).state ≠ .travel → (s.crane c.other).state ≠ .yielding → (s.crane c.other).state ≠ .wait →
      ∃ t, exec (.picked c) s = .next t ∧
        (∀ r : LoadRecord, r.heat = p.heat → r.grade = p.grade → r.thickness = p.thickness → r.remnant = p.remnant →
          (p.remnant = none → r.width = p.width ∧ r.length = p.length) →
          (∀ i m, p.remnant = some i → s.remnant i = some m → r.width = m.rawWidth ∧ r.length = m.rawLength) →
          (t.crane c).hook = some r ∧
          t.order n = some { o with load := some r, state := .carrying, priorBay := none, priorRemnant := none }) ∧
        (∀ i m, p.remnant = some i → s.remnant i = some m → t.remnants = { s.remnants with
          records := put s.remnants.records i (some { m with state := .moving, slot := none, bay := none, crane := some c }) }) ∧
        (p.remnant = none → t.remnants = s.remnants) ∧
        t.bayTable = { s.bayTable with
          bays := put s.bayTable.bays b { s.bay b with
            state := .empty, claim := none, lastDeclared := none, history := [], comparePending := false, outcome := .none
            plate := none }
          changed := insertAsc b s.bayTable.changed } ∧
        (t.crane c).hoistTimer = none ∧ (t.crane c).state = .travel ∧
        (t.crane c).goal = some ⟨s.layout.position o.dest, .order⟩ ∧
        (∃ target, (t.crane c).target = some target ∧ t.sent = s.sent ++ [.crane c (.goto target)]) ∧
        t.crane c.other = s.crane c.other ∧ (t.notice (.crane c)).pending = true ∧ (t.notice .bay).pending = true ∧
        s.ChangesOnly [.receivers, .notices, .bays, .remnants, .dispatcher, .cranes, .sent] t) ∧
    (∀ b r, k.state = .hoist → inHand → o.state = .lowering → o.crane = some c → o.dest = .bay b → k.hook = some r →
      r.remnant = none → s.hall.state ≠ .park → ∃ t, exec (.setDown c) s = .next t ∧
        t.bayTable = { s.bayTable with
          bays := put s.bayTable.bays b { s.bay b with
            state := .placed, claim := none, lastDeclared := none, history := [], comparePending := false, outcome := .none,
            plate := some ⟨r.heat, r.grade, r.thickness, r.width, r.length, none, .unchecked⟩ }
          changed := insertAsc b s.bayTable.changed } ∧
        t.cranes = s.cranes.put c { k with
          state := .idle, goal := none, waitCause := none, stopCause := none, hook := none, hoistTimer := none, order := none
          lastEnded := some ⟨n, o.kind, .done, none, some c⟩ } ∧
        t.dispatcher = { s.dispatcher.without ⟨n, o.kind, .done, none, some c⟩ with done := bump s.dispatcher.done } ∧
        (t.notice (.crane c)).pending = true ∧ (t.notice .bay).pending = true ∧
        s.ChangesOnly [.receivers, .notices, .bays, .dispatcher, .cranes] t)

/-- R136, R137, R147: STATUS updates position, hook flag and drive code; a drive fault stops the crane with one HALT, whatever
hangs on its hook (notes/assumptions/23), and one CRANE marking for state and cause (notes/assumptions/26); the first STATUS brings
an OFFLINE crane back, after the separation test of its position (notes/assumptions/25); that one which comes back STOPPED is sent
no HALT is the model's choice (notes/assumptions/70). 500 ms of silence make a crane OFFLINE and suspend its order, and count in
OFFLINE too, where CRANE is not marked (notes/assumptions/21); the hoist timer's expiry stops it. A stray frame is counted; a stopped timer does nothing (notes/assumptions/15). Two cranes closer than S stop with cause SEPARATION,
each time with HALT, and the fault counts on both (notes/assumptions/20) unless both have that cause already. -/
def Obligations.CranesStopAndComeBack : Prop :=
  ∀ (c : CraneId) (s : State), s.Settled → s.NothingToDispatch →
    let k := s.crane c
    (∀ (p : BitVec 32) (loaded : Bool) (code : Byte),
      let report := Instr.cranePortStatus c p (if loaded then 1 else 0) code
      let told : Crane := { k with silenceTimer := some 500, position := p.toNat, hookLoaded := loaded, drive := code }
      let heard (k : Crane) : State := { s with receivers := s.receivers.set (.crane c) .hunt, cranes := s.cranes.put c k }
      (s.ReportsAlone c p.toNat → k.state ≠ .wait →
        (k.state ≠ .offline → code = 0 → (loaded = true ↔ k.hook ≠ none) → exec report s = .next (heard told)) ∧
        (k.state ≠ .offline → k.state ≠ .stopped → code ≠ 0 → k.order = none →
          exec report s = .next { heard { told with
              state := .stopped, stopCause := some .fault, waitCause := none, hoistTimer := none } with
            link := (s.mark (.crane c)).link, sent := s.sent ++ [.crane c .halt] }) ∧
        (k.state = .offline → s.hallStopActive = true →
          exec report s = .next { heard { told with state := .stopped, stopCause := some .hallStop, waitCause := none } with
            link := (s.mark (.crane c)).link }) ∧
        (k.state = .offline → s.hallStopActive = false → k.order ≠ none ∨ code ≠ 0 →
          exec report s = .next { heard { told with state := .stopped, stopCause := some .fault, waitCause := none } with
            link := (s.mark (.crane c)).link }) ∧
        (k.state = .offline → s.hallStopActive = false → k.order = none → code = 0 → loaded = false → k.hook = none →
          s.hall.state ≠ .park ∨ p.toNat ≤ s.settings.park.get c + 100 ∧ s.settings.park.get c ≤ p.toNat + 100 →
          exec report s = .next { heard { told with
              state := if s.hall.state = .park then .parked else .idle
              goal := none, waitCause := none, stopCause := none } with
            link := (s.mark (.crane c)).link })) ∧
      (p.toNat ≤ s.layout.runwayEnd → (heard told).CranesTooClose → code = 0 → (loaded = true ↔ k.hook ≠ none) →
        (∀ d, (s.crane d).state ≠ .offline) → ∃ t, exec report s = .next t ∧
        t.sent = s.sent ++ [.crane .c1 .halt, .crane .c2 .halt] ∧
        ∀ d, (t.crane d).state = .stopped ∧ (t.crane d).stopCause = some .separation ∧ (t.crane d).hoistTimer = none ∧
          (t.crane d).separationFaults =
            (if ((s.crane .c1).state = .stopped ∧ (s.crane .c1).stopCause = some .separation) ∧
                (s.crane .c2).state = .stopped ∧ (s.crane .c2).stopCause = some .separation
              then (s.crane d).separationFaults else bump (s.crane d).separationFaults) ∧
          ((s.crane d).state ≠ .stopped ∨ (s.crane d).stopCause ≠ some .separation →
            (t.notice (.crane d)).pending = true))) ∧
    (∀ typ body, exec (.craneStrayFrame c typ body) s = .next { s with
      receivers := s.receivers.set (.crane c) .hunt
      cranes := s.cranes.put c { k with silenceTimer := some 500, strays := bump k.strays } }) ∧
    (k.silenceTimer = none → exec (.craneSilenceTimeout c) s = .next s) ∧
    (k.silenceTimer ≠ none → ∃ t, exec (.craneSilenceTimeout c) s = .next t ∧
      t.cranes = s.cranes.put c { k with
        state := .offline, waitCause := none, stopCause := none, hoistTimer := none, silenceTimer := none
        offlineEntries := bump k.offlineEntries } ∧
      (∀ n o, k.order = some n → s.order n = some o → o.state ≠ .suspended →
        t.order n = some { o with state := .suspended, suspendedPhase := o.phase }) ∧
      (k.state ≠ .offline → (t.notice (.crane c)).pending = true) ∧
      (k.state = .offline → k.waitCause = none → k.stopCause = none → s.Marked t []) ∧
      s.ChangesOnly [.notices, .dispatcher, .cranes] t) ∧
    (k.hoistTimer = none → exec (.hoistTimerExpiry c) s = .next s) ∧
    (k.hoistTimer ≠ none → k.state = .hoist → ∃ t, exec (.hoistTimerExpiry c) s = .next t ∧
      t.sent = s.sent ++ [.crane c .halt] ∧
      t.cranes = s.cranes.put c { k with
        state := .stopped, stopCause := some .hoistTimeout, waitCause := none, hoistTimer := none } ∧
      (∀ n o, k.order = some n → s.order n = some o → o.state ≠ .suspended →
        t.order n = some { o with state := .suspended, suspendedPhase := o.phase }) ∧
      (t.notice (.crane c)).pending = true ∧ s.ChangesOnly [.notices, .dispatcher, .cranes, .sent] t)
end

