-- ==== Sys2Proof/Laws/Frame.lean ====
section
/-! SUPPORT. What each shared operation leaves as it was: one lemma per operation, cited instead of unfolding it. -/

namespace Sys2Proof.Machine

open State

set_option Elab.async false

variable {s t u : State}

theorem State.ChangesOnly.refl {ps : List Part} : s.ChangesOnly ps s := by
  intro part _
  cases part <;> rfl

theorem State.ChangesOnly.weaken {ps qs : List Part} (h : s.ChangesOnly ps t) (hs : ∀ p ∈ ps, p ∈ qs := by decide) :
    s.ChangesOnly qs t :=
  fun p hp => h p (fun hq => hp (hs p hq))

/-- Agreement on a part passes on. -/
theorem Part.same_trans (p : Part) (h : p.same s t) (k : p.same t u) : p.same s u := by
  cases p <;> simp only [Part.same] at h k ⊢ <;> rw [k] <;> rw [h]

theorem State.ChangesOnly.trans {ps : List Part} (h : s.ChangesOnly ps t) (k : t.ChangesOnly ps u) : s.ChangesOnly ps u :=
  fun p hp => p.same_trans (h p hp) (k p hp)

theorem State.ChangesOnly.andThen {qs rs : List Part} (h : s.ChangesOnly rs t) (k : t.ChangesOnly qs u)
    (hq : ∀ p ∈ qs, p ∈ rs := by decide) : s.ChangesOnly rs u :=
  h.trans (k.weaken hq)

theorem State.ChangesOnly.start {ps qs rs : List Part} (h : s.ChangesOnly ps t) (k : t.ChangesOnly qs u)
    (hp : ∀ p ∈ ps, p ∈ rs := by decide) (hq : ∀ p ∈ qs, p ∈ rs := by decide) : s.ChangesOnly rs u :=
  (h.weaken hp).trans (k.weaken hq)

variable (s)

/-! ## Updates of one block -/

theorem State.modBay_changes (a : BayIx) (f : Bay → Bay) : s.ChangesOnly [.bays] (s.modBay a f) := by
  intro part hp; cases part <;> first | rfl | exact absurd (by decide) hp

theorem State.modChannel_changes (g : Gantry) (f : Channel → Channel) : s.ChangesOnly [.channels] (s.modChannel g f) := by
  intro part hp; cases part <;> first | rfl | exact absurd (by decide) hp

theorem State.modMonitor_changes (g : Gantry) (f : Monitor → Monitor) : s.ChangesOnly [.monitors] (s.modMonitor g f) := by
  intro part hp; cases part <;> first | rfl | exact absurd (by decide) hp

theorem State.modBudget_changes (f : Budget → Budget) : s.ChangesOnly [.budget] (s.modBudget f) := by
  intro part hp; cases part <;> first | rfl | exact absurd (by decide) hp

theorem State.modLine_changes (l : LineIx) (f : Line → Line) : s.ChangesOnly [.lines] (s.modLine l f) := by
  intro part hp; cases part <;> first | rfl | exact absurd (by decide) hp

theorem State.modHall_changes (f : Hall → Hall) : s.ChangesOnly [.hall] (s.modHall f) := by
  intro part hp; cases part <;> first | rfl | exact absurd (by decide) hp

theorem State.modComposer_changes (f : Composer → Composer) : s.ChangesOnly [.composer] (s.modComposer f) := by
  intro part hp; cases part <;> first | rfl | exact absurd (by decide) hp

theorem State.modHeat_changes (h : HeatIx) (f : Heat → Heat) : s.ChangesOnly [.composer] (s.modHeat h f) := by
  intro part hp; cases part <;> first | rfl | exact absurd (by decide) hp

theorem State.modRemnants_changes (f : RemnantTable → RemnantTable) : s.ChangesOnly [.remnants] (s.modRemnants f) := by
  intro part hp; cases part <;> first | rfl | exact absurd (by decide) hp

theorem State.setRemnant_changes (i : RemnantIx) (r : Option Remnant) : s.ChangesOnly [.remnants] (s.setRemnant i r) := by
  intro part hp; cases part <;> first | rfl | exact absurd (by decide) hp

theorem State.modRemnant_changes (i : RemnantIx) (f : Remnant → Remnant) : s.ChangesOnly [.remnants] (s.modRemnant i f) := by
  intro part hp; cases part <;> first | rfl | exact absurd (by decide) hp

theorem State.modOrder_changes (n : Nat) (f : Order → Order) : s.ChangesOnly [.dispatcher] (s.modOrder n f) := by
  intro part hp; cases part <;> first | rfl | exact absurd (by decide) hp

theorem State.callPass_changes  : s.ChangesOnly [.passDue] (s.callPass) := by
  intro part hp; cases part <;> first | rfl | exact absurd (by decide) hp

theorem State.modStats_changes (f : LinkStats → LinkStats) : s.ChangesOnly [.link] (s.modStats f) := by
  intro part hp; cases part <;> first | rfl | exact absurd (by decide) hp

theorem State.modCrane_changes (c : CraneId) (f : Crane → Crane) : s.ChangesOnly [.cranes] (s.modCrane c f) := by
  intro part hp; cases part <;> first | rfl | exact absurd (by decide) hp

theorem State.setReceiver_changes (p : Port) (x : Receiver) : s.ChangesOnly [.receivers] (s.setReceiver p x) := by
  intro part hp; cases part <;> first | rfl | exact absurd (by decide) hp

theorem State.emit_changes (m : Sent) : s.ChangesOnly [.sent] (s.emit m) := by
  intro part hp; cases part <;> first | rfl | exact absurd (by decide) hp

theorem State.tellGantry_changes (g : Gantry) (m : GantryMessage) : s.ChangesOnly [.sent] (s.tellGantry g m) := by
  intro part hp; cases part <;> first | rfl | exact absurd (by decide) hp

theorem State.tellCrane_changes (c : CraneId) (m : CraneMessage) : s.ChangesOnly [.sent] (s.tellCrane c m) := by
  intro part hp; cases part <;> first | rfl | exact absurd (by decide) hp

theorem State.modNotice_changes (k : NoticeClass) (f : Notice → Notice) : s.ChangesOnly [.notices] (s.modNotice k f) := by
  intro part hp; cases part <;> first | rfl | exact absurd (by decide) hp

theorem State.mark_changes (k : NoticeClass) : s.ChangesOnly [.notices] (s.mark k) := by
  intro part hp; cases part <;> first | rfl | exact absurd (by decide) hp

theorem State.hostFrameTaken_changes  : s.ChangesOnly [.link, .receivers] (s.hostFrameTaken) := by
  intro part hp; cases part <;> first | rfl | exact absurd (by decide) hp

theorem State.queueReply_changes (f : Frame) : s.ChangesOnly [.link] (s.queueReply f) := by
  intro part hp; cases part <;> first | rfl | exact absurd (by decide) hp

theorem State.gantryFrameTaken_changes (g : Gantry) : s.ChangesOnly [.receivers, .channels] (s.gantryFrameTaken g) := by
  intro part hp; cases part <;> first | rfl | exact absurd (by decide) hp

theorem State.craneFrameTaken_changes (c : CraneId) : s.ChangesOnly [.receivers, .cranes] (s.craneFrameTaken c) := by
  intro part hp; cases part <;> first | rfl | exact absurd (by decide) hp

theorem State.gantryStray_changes (g : Gantry) : s.ChangesOnly [.channels] (s.gantryStray g) := by
  intro part hp; cases part <;> first | rfl | exact absurd (by decide) hp

theorem State.craneStray_changes (c : CraneId) : s.ChangesOnly [.cranes] (s.craneStray c) := by
  intro part hp; cases part <;> first | rfl | exact absurd (by decide) hp

theorem State.addRef_changes (h : HeatIx) : s.ChangesOnly [.composer] (s.addRef h) := by
  intro part hp; cases part <;> first | rfl | exact absurd (by decide) hp

theorem State.dropRef_changes (h : HeatIx) : s.ChangesOnly [.composer] (s.dropRef h) := by
  intro part hp; cases part <;> first | rfl | exact absurd (by decide) hp

theorem State.makeTrace_changes (r : TraceRecord) : s.ChangesOnly [.composer] (s.makeTrace r) := by
  intro part hp; cases part <;> first | rfl | exact absurd (by decide) hp

theorem State.markOutcome_changes (r : TraceRecord) : s.ChangesOnly [.composer, .notices] (s.markOutcome r) := by
  intro part hp; cases part <;> first | rfl | exact absurd (by decide) hp

theorem State.bayChanged_changes (b : BayIx) : s.ChangesOnly [.bays, .notices] (s.bayChanged b) := by
  intro part hp; cases part <;> first | rfl | exact absurd (by decide) hp

theorem State.setBooking_changes (g : Gantry) (k : Booking) : s.ChangesOnly [.budget] (s.setBooking g k) := by
  intro part hp; cases part <;> first | rfl | exact absurd (by decide) hp

theorem State.callRemnant_changes (i : RemnantIx) : s.ChangesOnly [.remnants] (s.callRemnant i) := by
  intro part hp; cases part <;> first | rfl | exact absurd (by decide) hp

theorem State.liftRemnant_changes (i : RemnantIx) (c : CraneId) : s.ChangesOnly [.remnants] (s.liftRemnant i c) := by
  intro part hp; cases part <;> first | rfl | exact absurd (by decide) hp

theorem State.stepDone_changes (g : Gantry) : s.ChangesOnly [.channels] (s.stepDone g) := by
  intro part hp; cases part <;> first | rfl | exact absurd (by decide) hp

theorem State.setInProgress_changes (g : Gantry) (p : InProgress) : s.ChangesOnly [.channels] (s.setInProgress g p) := by
  intro part hp; cases part <;> first | rfl | exact absurd (by decide) hp

theorem State.markDone_changes (g : Gantry) : s.ChangesOnly [.channels] (s.markDone g) := by
  intro part hp; cases part <;> first | rfl | exact absurd (by decide) hp

theorem State.setHeat_changes (h : HeatIx) (e : Option Heat) : s.ChangesOnly [.composer] (s.setHeat h e) := by
  intro part hp; cases part <;> first | rfl | exact absurd (by decide) hp

/-! ## Feeder budget, marks, bays, remnants -/

theorem State.setCauses_changes (c : GateCauses) : s.ChangesOnly [.budget, .notices] (s.setCauses c) := by
  unfold State.setCauses
  split
  · exact .refl
  · exact .start (modBudget_changes _ _) (mark_changes _ _)

theorem State.evalLoad_changes : s.ChangesOnly [.budget, .notices] s.evalLoad := by
  unfold State.evalLoad
  simp only
  split
  · exact setCauses_changes _ _
  · split
    · exact setCauses_changes _ _
    · exact .refl

theorem State.torchOn_changes (g : Gantry) : s.ChangesOnly [.sent] (s.torchOn g) := by
  unfold State.torchOn
  split
  · exact tellGantry_changes _ _ _
  · exact .refl

theorem State.beginStrike_changes (g : Gantry) : s.ChangesOnly [.sent, .monitors, .notices] (s.beginStrike g) := by
  unfold State.beginStrike
  split
  · exact .refl
  · exact .andThen (.start (torchOn_changes _ _) (modMonitor_changes _ _ _)) (mark_changes _ _)

theorem State.admitChannel_changes (g : Gantry) (kind : ArcKind) (amount : Nat) :
    s.ChangesOnly [.budget, .notices, .channels, .sent, .monitors] (s.admitChannel g kind amount) :=
  .andThen (.andThen (.start (setBooking_changes _ _ _) (evalLoad_changes _)) (modChannel_changes _ _ _))
    (beginStrike_changes _ _)

/-- What a test of the wait list can change: an admission begins a strike. -/
def budgetParts : List Part := [.budget, .notices, .channels, .sent, .monitors]

theorem State.testWaitListN_changes (n : Nat) : s.ChangesOnly budgetParts (s.testWaitListN n) := by
  induction n generalizing s with
  | zero => exact .refl
  | succ n ih =>
    unfold State.testWaitListN
    split
    · exact .refl
    · split
      · exact .andThen (.start (modBudget_changes _ _) (admitChannel_changes _ _ _ _)) (ih _)
      · exact .refl

theorem State.testWaitList_changes : s.ChangesOnly budgetParts s.testWaitList := testWaitListN_changes _ _

theorem State.afterDecrease_changes : s.ChangesOnly budgetParts s.afterDecrease :=
  .start (evalLoad_changes _) (testWaitList_changes _)

theorem State.releaseBooking_changes (g : Gantry) : s.ChangesOnly budgetParts (s.releaseBooking g) :=
  .start (setBooking_changes _ _ _) (afterDecrease_changes _)

theorem State.removeWaiter_changes (g : Gantry) : s.ChangesOnly budgetParts (s.removeWaiter g) := by
  unfold State.removeWaiter
  split
  · exact .start (modBudget_changes _ _) (testWaitList_changes _)
  · exact .refl

theorem State.requestBooking_changes (g : Gantry) (kind : ArcKind) (amount : Nat) :
    s.ChangesOnly budgetParts (s.requestBooking g kind amount) := by
  unfold State.requestBooking
  split
  · exact .start (modBudget_changes _ _) (mark_changes _ _)
  · exact .start (modBudget_changes _ _) (admitChannel_changes _ _ _ _)
  · exact .andThen (.start (modBudget_changes _ _) (mark_changes _ _)) (modChannel_changes _ _ _)

theorem State.stepDownBooking_changes (g : Gantry) (current : Nat) :
    s.ChangesOnly budgetParts (s.stepDownBooking g current) := by
  unfold State.stepDownBooking
  simp only
  split
  · exact .start (setBooking_changes _ _ _) (afterDecrease_changes _)
  · exact (setBooking_changes _ _ _).weaken

theorem State.rebookCut_changes (g : Gantry) (asked : Nat) : s.ChangesOnly budgetParts (s.rebookCut g asked) := by
  unfold State.rebookCut
  simp only
  split
  · exact .refl
  · refine .andThen ?_ (tellGantry_changes _ _ _)
    have h : ∀ u : State, u.ChangesOnly budgetParts (if asked < (s.booking g).amount then u.afterDecrease else u.evalLoad) := by
      intro u
      split
      · exact afterDecrease_changes _
      · exact (evalLoad_changes _).weaken
    split
    · exact .andThen (.andThen (.andThen (.andThen (.start (setBooking_changes _ _ _) (h _)) (modBudget_changes _ _))
        (mark_changes _ _)) (modChannel_changes _ _ _)) (mark_changes _ _)
    · exact .start (setBooking_changes _ _ _) (h _)

theorem State.setHallGate_changes (h : Option HallGateCause) : s.ChangesOnly budgetParts (s.setHallGate h) :=
  .start (setCauses_changes _ _) (testWaitList_changes _)

theorem State.traceWithoutSerial_changes (g : Gantry) (part : Nat) (outcome : TraceOutcome) :
    s.ChangesOnly [.composer, .notices] (s.traceWithoutSerial g part outcome) := by
  unfold State.traceWithoutSerial
  split
  · exact .refl
  · exact .start (makeTrace_changes _ _) (markOutcome_changes _ _)

theorem State.settleTrace_changes (r : TraceRecord) (outcome : TraceOutcome) :
    s.ChangesOnly [.composer, .notices] (s.settleTrace r outcome) :=
  .andThen (.start (modComposer_changes _ _) (modHeat_changes _ _ _)) (markOutcome_changes _ _)

theorem State.deferredComparison_changes (b : BayIx) : s.ChangesOnly [.bays] (s.deferredComparison b) := by
  unfold State.deferredComparison
  simp only
  split
  · exact modBay_changes _ _ _
  · exact .refl

theorem State.declare_changes (b : BayIx) (code : Code) : s.ChangesOnly [.bays, .notices] (s.declare b code) :=
  .start (modBay_changes _ _ _) (bayChanged_changes _ _)

theorem State.takeRead_changes (b : BayIx) (chars : List Byte) : s.ChangesOnly [.bays, .notices] (s.takeRead b chars) := by
  unfold State.takeRead
  simp only
  split
  · exact (modBay_changes _ _ _).weaken
  · split
    · exact .start (modBay_changes _ _ _) (declare_changes _ _ _)
    · exact (modBay_changes _ _ _).weaken

theorem State.claimDestBay_changes (b : BayIx) (n : Nat) : s.ChangesOnly [.bays, .notices] (s.claimDestBay b n) :=
  .start (modBay_changes _ _ _) (bayChanged_changes _ _)

theorem State.claimSourceBay_changes (b : BayIx) (n : Nat) : s.ChangesOnly [.bays, .notices] (s.claimSourceBay b n) :=
  .start (modBay_changes _ _ _) (bayChanged_changes _ _)

theorem State.releaseDestBay_changes (b : BayIx) (n : Nat) : s.ChangesOnly [.bays, .notices] (s.releaseDestBay b n) := by
  unfold State.releaseDestBay
  split
  · exact .start (modBay_changes _ _ _) (bayChanged_changes _ _)
  · exact .refl

theorem State.releaseSourceBay_changes (b : BayIx) (n : Nat) (prior : BayState) :
    s.ChangesOnly [.bays, .notices] (s.releaseSourceBay b n prior) := by
  unfold State.releaseSourceBay
  split
  · exact .andThen (.start (modBay_changes _ _ _) (deferredComparison_changes _ _)) (bayChanged_changes _ _)
  · exact .refl

theorem State.startBurning_changes (b : BayIx) : s.ChangesOnly [.bays, .notices] (s.startBurning b) :=
  .start (modBay_changes _ _ _) (bayChanged_changes _ _)

theorem State.leaveBurning_changes (b : BayIx) (complete pierceConsumed : Bool) :
    s.ChangesOnly [.bays, .notices] (s.leaveBurning b complete pierceConsumed) := by
  unfold State.leaveBurning
  simp only
  split
  · exact .start (modBay_changes _ _ _) (bayChanged_changes _ _)
  · exact .andThen (.start (modBay_changes _ _ _) (deferredComparison_changes _ _)) (bayChanged_changes _ _)

theorem State.expiryTest_changes (i : RemnantIx) : s.ChangesOnly [.remnants, .notices] (s.expiryTest i) := by
  unfold State.expiryTest
  split
  · split
    · exact .andThen (.start (setRemnant_changes _ _ _) (modRemnants_changes _ _)) (mark_changes _ _)
    · exact .refl
  · exact .refl

/-- A fold of an operation changes what the operation changes. -/
theorem State.foldl_changes {α : Type} {ps : List Part} (f : State → α → State)
    (h : ∀ s a, State.ChangesOnly ps s (f s a)) (l : List α) : s.ChangesOnly ps (l.foldl f s) := by
  induction l generalizing s with
  | nil => exact .refl
  | cons a l ih => exact (h s a).trans (ih _)

theorem State.expiryTests_changes : s.ChangesOnly [.remnants, .notices] s.expiryTests :=
  foldl_changes _ _ expiryTest_changes _

theorem State.ageStocked_changes : s.ChangesOnly [.remnants] s.ageStocked :=
  foldl_changes _ _ (fun s i => modRemnant_changes s i _) _

theorem State.vacate_changes (i : RemnantIx) : s.ChangesOnly [.remnants, .composer] (s.vacate i) := by
  unfold State.vacate
  split
  · exact .start (setRemnant_changes _ _ _) (dropRef_changes _ _)
  · exact .refl

theorem State.restoreRemnant_changes (i : RemnantIx) (prior : RemnantState) :
    s.ChangesOnly [.remnants, .notices] (s.restoreRemnant i prior) := by
  unfold State.restoreRemnant
  split
  · split
    · exact .start (setRemnant_changes _ _ _) (expiryTest_changes _ _)
    · exact .refl
  · exact .refl

theorem State.landRemnant_changes (i : RemnantIx) (site : Site) :
    s.ChangesOnly [.remnants, .composer] (s.landRemnant i site) := by
  cases site
  · exact .refl
  · exact .refl
  · exact (modRemnant_changes _ _ _).weaken
  · exact (modRemnant_changes _ _ _).weaken
  · exact vacate_changes _ _

/-! ## Cranes -/

/-- What a crane's motion can change beside what it sends. -/
def motionParts : List Part := [.cranes, .notices, .passDue, .sent]

theorem State.updateCrane_changes (c : CraneId) (f : Crane → Crane) :
    s.ChangesOnly [.cranes, .notices, .passDue] (s.updateCrane c f) := by
  have h1 : ∀ (u : State) (p : Prop) [Decidable p], u.ChangesOnly [.notices] (if p then u else u.mark (.crane c)) := by
    intro u p _
    split
    · exact .refl
    · exact mark_changes _ _
  have h2 : ∀ (u : State) (p : Prop) [Decidable p],
      u.ChangesOnly [.passDue] (if p then u else u.modDispatcher (fun d => { d with passDue := true })) := by
    intro u p _
    split
    · exact .refl
    · exact callPass_changes _
  exact .andThen (.start (modCrane_changes _ _ _) (h1 _ _)) (h2 _ _)

theorem State.sendGoto_changes (c : CraneId) : s.ChangesOnly motionParts (s.sendGoto c) := by
  unfold State.sendGoto
  split
  · exact .refl
  · exact .start (modCrane_changes _ _ _) (tellCrane_changes _ _ _)

theorem State.retarget_changes (c : CraneId) : s.ChangesOnly [.cranes] (s.retarget c) := by
  unfold State.retarget
  split
  · exact modCrane_changes _ _ _
  · exact .refl

theorem State.retargetBoth_changes (n : Nat) (d1 d2 : Bool) : s.ChangesOnly [.cranes] (State.retargetBoth n d1 d2 s) := by
  induction n generalizing s d1 d2 with
  | zero => exact .refl
  | succ n ih =>
    have h : ∀ (u : State) (d : Bool) (c : CraneId), u.ChangesOnly [.cranes] (if d then u.retarget c else u) := by
      intro u d c
      split
      · exact retarget_changes _ _
      · exact .refl
    unfold State.retargetBoth
    split
    · exact .refl
    · exact .andThen (.start (h _ _ _) (h _ _ _)) (ih _ _ _)

theorem State.settleTarget_changes (c : CraneId) (before : Option Nat) :
    s.ChangesOnly motionParts (s.settleTarget c before) := by
  unfold State.settleTarget
  simp only
  split
  · split
    · exact .refl
    · exact .start (updateCrane_changes _ _ _) (tellCrane_changes _ _ _)
  · split
    · exact (updateCrane_changes _ _ _).weaken
    · exact .refl

theorem State.recompute_changes (due : ByCrane Bool) : s.ChangesOnly motionParts (s.recompute due) :=
  .andThen (.start (retargetBoth_changes _ _ _ _) (settleTarget_changes _ _ _)) (settleTarget_changes _ _ _)

theorem State.recomputeOther_changes (c : CraneId) : s.ChangesOnly motionParts (s.recomputeOther c) := recompute_changes _ _

theorem State.recomputeAll_changes : s.ChangesOnly motionParts s.recomputeAll := recompute_changes _ _

theorem State.suspendOrder_changes (c : CraneId) : s.ChangesOnly [.dispatcher] (s.suspendOrder c) := by
  unfold State.suspendOrder
  split
  · exact .refl
  · exact modOrder_changes _ _ _

theorem State.stopCrane_changes (c : CraneId) (cause : StopCause) :
    s.ChangesOnly (.dispatcher :: motionParts) (s.stopCrane c cause) := by
  unfold State.stopCrane
  split
  · exact .refl
  · exact .andThen (.start (tellCrane_changes _ _ _) (suspendOrder_changes _ _)) (updateCrane_changes _ _ _)

theorem State.countSeparation_changes : s.ChangesOnly motionParts s.countSeparation := by
  unfold State.countSeparation
  dsimp only
  split
  · exact .refl
  · exact .start (modCrane_changes _ _ _) (modCrane_changes _ _ _)

theorem State.separationTest_changes : s.ChangesOnly (.dispatcher :: motionParts) s.separationTest := by
  unfold State.separationTest
  split
  · exact .andThen (.start (countSeparation_changes _) (stopCrane_changes _ _ _)) (stopCrane_changes _ _ _)
  · exact .refl

theorem State.reportPosition_changes (c : CraneId) (p : Nat) :
    s.ChangesOnly (.dispatcher :: motionParts) (s.reportPosition c p) :=
  .andThen (.start (modCrane_changes _ _ _) (separationTest_changes _)) (recomputeOther_changes _ _)

theorem State.restCrane_changes (c : CraneId) (state : CraneState) : s.ChangesOnly motionParts (s.restCrane c state) :=
  (updateCrane_changes _ _ _).weaken

theorem State.sendToPark_changes (c : CraneId) : s.ChangesOnly motionParts (s.sendToPark c) :=
  .andThen (.andThen (.start (modCrane_changes _ _ _) (sendGoto_changes _ _)) (updateCrane_changes _ _ _))
    (recomputeOther_changes _ _)

theorem State.becomeIdle_changes (c : CraneId) : s.ChangesOnly motionParts (s.becomeIdle c) := by
  unfold State.becomeIdle
  simp only
  split
  · exact .start (restCrane_changes _ _ _) (sendToPark_changes _ _)
  · exact restCrane_changes _ _ _

theorem State.sendYield_changes (c : CraneId) (p : Nat) : s.ChangesOnly motionParts (s.sendYield c p) := by
  unfold State.sendYield
  exact .andThen (.start (modCrane_changes _ _ _) (sendGoto_changes _ _)) (updateCrane_changes _ _ _)

theorem State.travelTo_changes (c : CraneId) (site : Site) : s.ChangesOnly motionParts (s.travelTo c site) := by
  unfold State.travelTo
  exact .andThen (.start (modCrane_changes _ _ _) (sendGoto_changes _ _)) (updateCrane_changes _ _ _)

theorem State.hoist_changes (c : CraneId) (m : CraneMessage) : s.ChangesOnly motionParts (s.hoist c m) :=
  .start (tellCrane_changes _ _ _) (updateCrane_changes _ _ _)

theorem State.beginLowering_changes (c : CraneId) (dest : Site) : s.ChangesOnly motionParts (s.beginLowering c dest) := by
  unfold State.beginLowering
  split
  · exact (updateCrane_changes _ _ _).weaken
  · exact hoist_changes _ _ _

theorem State.guardReleasesCrane_changes (b : BayIx) (c : CraneId) :
    s.ChangesOnly motionParts (s.guardReleasesCrane b c) := by
  unfold State.guardReleasesCrane
  split
  · split
    · exact hoist_changes _ _ _
    · exact .refl
  · exact .refl

theorem State.guardHaltsCrane_changes (b : BayIx) (c : CraneId) : s.ChangesOnly motionParts (s.guardHaltsCrane b c) := by
  unfold State.guardHaltsCrane
  split
  · split
    · exact .start (tellCrane_changes _ _ _) (updateCrane_changes _ _ _)
    · exact .refl
  · exact .refl

theorem State.overloadBegins_changes (c : CraneId) :
    s.ChangesOnly (.dispatcher :: motionParts) (s.overloadBegins c) := by
  unfold State.overloadBegins
  simp only
  split
  · exact .andThen (.start (tellCrane_changes _ _ _) (tellCrane_changes _ _ _)) (modCrane_changes _ _ _)
  · split
    · exact stopCrane_changes _ _ _
    · exact .refl

/-! ## Orders and dispatch -/

/-- What the dispatcher's work can change. -/
def dispatchParts : List Part := [.dispatcher, .passDue, .cranes, .notices, .sent]

theorem State.assign_changes (o : Order) (c : CraneId) : s.ChangesOnly dispatchParts (s.assign o c) := by
  have h : ∀ (u : State) (y : SpanOutcome), u.ChangesOnly dispatchParts
      (match y with | .yields position => u.sendYield c.other position | _ => u) := by
    intro u y
    split
    · exact (sendYield_changes _ _ _).weaken
    · exact .refl
  have h0 : ∀ (u : State) (f : Dispatcher → Dispatcher), (∀ d, (f d).settings = d.settings) →
      u.ChangesOnly [.dispatcher, .passDue] (u.modDispatcher f) := by
    intro u f hf p hp
    cases p <;> first | rfl | exact hf _ | exact absurd (by decide) hp
  unfold State.assign
  dsimp only
  refine .andThen (.andThen (.andThen ?_ (travelTo_changes _ _ _)) (recomputeAll_changes _)) (mark_changes _ _)
  refine .trans ?_ (h _ _)
  refine .andThen (.start (h0 _ _ ?_) (modOrder_changes _ _ _)) (modCrane_changes _ _ _)
  exact fun _ => rfl

theorem State.passN_changes (n : Nat) : s.ChangesOnly dispatchParts (s.passN n) := by
  induction n generalizing s with
  | zero => exact .refl
  | succ n ih =>
    unfold State.passN
    split
    · exact .refl
    · refine .andThen (.start (ps := [.dispatcher]) ?_ (assign_changes _ _ _)) (ih _)
      intro p hp
      cases p <;> first | rfl | exact absurd (by decide) hp

theorem State.dispatchPass_changes : s.ChangesOnly dispatchParts s.dispatchPass := by
  unfold State.dispatchPass
  split
  · exact passN_changes _ _
  · exact .refl

theorem State.runDuePass_changes : s.ChangesOnly dispatchParts s.runDuePass := by
  have h : ∀ u : State, u.ChangesOnly [.passDue] (u.modDispatcher (fun d => { d with passDue := false })) := by
    intro u p hp
    cases p <;> first | rfl | exact absurd (by decide) hp
  unfold State.runDuePass
  split
  · exact .andThen (.start (h _) (dispatchPass_changes _)) (h _)
  · exact .refl

/-- Between commands no pass is owed: every command ends with the pass it called for. -/
@[simp] theorem State.runDuePass_settled : s.runDuePass.dispatcher.passDue = false := by
  unfold State.runDuePass
  split
  · rfl
  · rename_i h
    simpa using h

/-- A command that calls for no pass is not followed by one. -/
theorem State.runDuePass_of_settled (h : s.Settled) : s.runDuePass = s := by
  unfold State.runDuePass
  rw [if_neg (by simp [State.Settled] at h; simp [h])]


/-! ## Channels and arcs -/

theorem State.goDark_changes (g : Gantry) : s.ChangesOnly budgetParts (s.goDark g) := by
  unfold State.goDark
  dsimp only
  refine .andThen (.andThen ?_ (modMonitor_changes _ _ _)) (releaseBooking_changes _ _)
  split
  · exact .start (tellGantry_changes _ _ _) (tellGantry_changes _ _ _)
  · exact (tellGantry_changes _ _ _).weaken

theorem State.putOut_changes (g : Gantry) : s.ChangesOnly budgetParts (s.putOut g) :=
  .andThen (goDark_changes _ _) (mark_changes _ _)

theorem State.putOutIfLit_changes (g : Gantry) : s.ChangesOnly budgetParts (s.putOutIfLit g) := by
  unfold State.putOutIfLit
  split
  · exact putOut_changes _ _
  · exact .refl

/-- What putting an arc out and settling a mark can change. -/
def holdParts : List Part := .composer :: budgetParts

theorem State.settleMark_changes (g : Gantry) : s.ChangesOnly [.composer, .notices, .channels] (s.settleMark g) := by
  unfold State.settleMark
  split
  · refine .andThen ?_ (markDone_changes _ _)
    split
    · exact (settleTrace_changes _ _ _).weaken
    · exact (traceWithoutSerial_changes _ _ _ _).weaken
    · exact (traceWithoutSerial_changes _ _ _ _).weaken
  · exact .refl

/-- What the end of a run can change. -/
def runParts : List Part := [.channels, .monitors, .budget, .notices, .sent, .composer, .bays, .cranes, .passDue]

theorem State.endRun_changes (g : Gantry) (status : EndStatus) : s.ChangesOnly runParts (s.endRun g status) := by
  unfold State.endRun
  dsimp only
  have h1 : s.ChangesOnly runParts (((s.putOutIfLit g).removeWaiter g).settleMark g) :=
    .andThen (.start (putOutIfLit_changes _ _) (removeWaiter_changes _ _)) (settleMark_changes _ _)
  have h2 : ∀ (u : State), u.ChangesOnly runParts (if status = .complete then u else u.tellGantry g .halt) := by
    intro u
    split
    · exact .refl
    · exact (tellGantry_changes _ _ _).weaken
  refine .andThen (.andThen ?_ (modChannel_changes _ _ _)) (mark_changes _ _)
  have h3 := ((h1.trans (h2 _)).andThen (tellGantry_changes _ g .rest)).andThen
    (modChannel_changes _ g (fun c => c.ended status))
  split
  · exact (h3.andThen (leaveBurning_changes _ _ _ _)).andThen (recomputeAll_changes _)
  · exact h3

theorem State.endIfRunning_changes (g : Gantry) (status : EndStatus) :
    s.ChangesOnly runParts (s.endIfRunning g status) := by
  unfold State.endIfRunning
  split
  · exact .refl
  · exact endRun_changes _ _ _

theorem State.activateCut_changes (g : Gantry) : s.ChangesOnly budgetParts (s.activateCut g) := by
  unfold State.activateCut
  split
  · split
    · exact .start (modMonitor_changes _ _ _) (rebookCut_changes _ _ _)
    · exact .refl
  · exact .refl

theorem State.sendEntry_changes (g : Gantry) (step : Step) (start : Option Point) (centre : Option (Int × Int)) :
    s.ChangesOnly [.channels, .sent] (s.sendEntry g step start centre) := by
  unfold State.sendEntry
  dsimp only
  refine .andThen ?_ (modChannel_changes _ _ _)
  split
  · exact (tellGantry_changes _ _ _).weaken
  · exact .refl

theorem State.sendMotion_changes (g : Gantry) (step : Step) : s.ChangesOnly budgetParts (s.sendMotion g step) := by
  unfold State.sendMotion
  dsimp only
  split
  · exact .start (sendEntry_changes _ _ _ _ _) (activateCut_changes _ _)
  · exact (sendEntry_changes _ _ _ _ _).weaken

theorem State.resendList_changes (g : Gantry) (l : List WindowEntry) :
    s.ChangesOnly [.channels, .sent] (s.resendList g l) := by
  induction l generalizing s with
  | nil => exact .refl
  | cons e es ih =>
    unfold State.resendList
    split
    · exact (sendEntry_changes _ _ _ _ _).trans (ih _)
    · exact ih _

theorem State.resend_changes (g : Gantry) : s.ChangesOnly budgetParts (s.resend g) := by
  unfold State.resend
  dsimp only
  exact .andThen (.start (modChannel_changes _ _ _) (resendList_changes _ _ _)) (activateCut_changes _ _)

theorem State.request_changes (g : Gantry) : s.ChangesOnly runParts (s.request g) := by
  unfold State.request
  split
  · exact .refl
  · dsimp only
    split
    · exact .start (requestBooking_changes _ _ _ _) (endRun_changes _ _ _)
    · exact (requestBooking_changes _ _ _ _).weaken

theorem State.beginPierce_changes (g : Gantry) (current setpoint dwell : Nat) :
    s.ChangesOnly runParts (s.beginPierce g current setpoint dwell) :=
  .start (modChannel_changes _ _ _) (request_changes _ _)

theorem State.beginRepierce_changes (g : Gantry) (current setpoint : Nat) :
    s.ChangesOnly runParts (s.beginRepierce g current setpoint) :=
  .start (setInProgress_changes _ _ _) (request_changes _ _)

theorem State.beginMark_changes (g : Gantry) (x y part height current setpoint : Nat) :
    s.ChangesOnly [.sent, .channels] (s.beginMark g x y part height current setpoint) := by
  unfold State.beginMark
  exact .start (tellGantry_changes _ _ _) (modChannel_changes _ _ _)

theorem State.beginCheck_changes (g : Gantry) (line : LineIx) (active : Bool) (timeout : Nat) :
    s.ChangesOnly [.channels] (s.beginCheck g line active timeout) := by
  unfold State.beginCheck
  split
  · exact .start (stepDone_changes _ _) (setInProgress_changes _ _ _)
  · exact modChannel_changes _ _ _

theorem State.extinguish_changes (g : Gantry) : s.ChangesOnly budgetParts (s.extinguish g) :=
  .andThen (.andThen (putOutIfLit_changes _ _) (modChannel_changes _ _ _)) (stepDone_changes _ _)

theorem State.milestone_changes (g : Gantry) (code : Nat) : s.ChangesOnly [.channels, .notices] (s.milestone g code) :=
  .andThen (.start (modChannel_changes _ _ _) (stepDone_changes _ _)) (mark_changes _ _)

theorem State.consumeEnd_changes (g : Gantry) : s.ChangesOnly [.channels] (s.consumeEnd g) :=
  .start (modChannel_changes _ _ _) (stepDone_changes _ _)

theorem State.starveOut_changes (g : Gantry) : s.ChangesOnly budgetParts (s.starveOut g) := by
  unfold State.starveOut
  dsimp only
  split
  · exact .andThen (putOut_changes _ _) (modChannel_changes _ _ _)
  · exact .refl

theorem State.starve_changes (g : Gantry) : s.ChangesOnly budgetParts (s.starve g) :=
  .andThen (.start (modChannel_changes _ _ _) (mark_changes _ _)) (starveOut_changes _ _)

theorem State.carryOut_changes (g : Gantry) (step : Step) : s.ChangesOnly runParts (s.carryOut g step) := by
  cases step
  · exact .start (modChannel_changes _ _ _) (sendMotion_changes _ _ _)
  · exact beginPierce_changes _ _ _ _ _
  · exact (sendMotion_changes _ _ _).weaken
  · exact (sendMotion_changes _ _ _).weaken
  · exact (extinguish_changes _ _).weaken
  · exact (beginMark_changes _ _ _ _ _ _ _ _).weaken
  · exact (milestone_changes _ _ _).weaken
  · exact (beginCheck_changes _ _ _ _ _).weaken
  · exact (consumeEnd_changes _ _).weaken

theorem State.consumeN_changes (g : Gantry) (n : Nat) : s.ChangesOnly runParts (s.consumeN n g) := by
  induction n generalizing s with
  | zero => exact .refl
  | succ n ih =>
    unfold State.consumeN
    dsimp only
    split
    · exact .refl
    · split
      · split
        · exact (starve_changes _ _).weaken
        · exact .refl
      · split
        · exact .refl
        · exact endRun_changes _ _ _
        · exact beginRepierce_changes _ _ _ _
        · exact .andThen (.start (modChannel_changes _ _ _) (carryOut_changes _ _ _)) (ih _)

theorem State.finishEnding_changes (g : Gantry) : s.ChangesOnly runParts (s.finishEnding g) := by
  unfold State.finishEnding
  dsimp only
  split
  · exact endRun_changes _ _ _
  · exact .refl

theorem State.continueRun_changes (g : Gantry) : s.ChangesOnly runParts (s.continueRun g) :=
  .andThen (.start (consumeN_changes _ _ _) (starveOut_changes _ _)) (finishEnding_changes _ _)

theorem State.pickUpWindow_changes (g : Gantry) : s.ChangesOnly runParts (s.pickUpWindow g) := by
  unfold State.pickUpWindow
  dsimp only
  split
  · exact .start (resend_changes _ _) (continueRun_changes _ _)
  · exact continueRun_changes _ _

theorem State.stepDown_changes (g : Gantry) : s.ChangesOnly runParts (s.stepDown g) := by
  unfold State.stepDown
  split
  · exact .andThen (.andThen (.start (stepDownBooking_changes _ _ _) (modChannel_changes _ _ _)) (stepDone_changes _ _))
      (pickUpWindow_changes _ _)
  · exact .andThen (.start (stepDownBooking_changes _ _ _) (modChannel_changes _ _ _)) (pickUpWindow_changes _ _)
  · exact .refl

theorem State.holdChannel_changes (g : Gantry) (cause : HeldCause) : s.ChangesOnly holdParts (s.holdChannel g cause) := by
  unfold State.holdChannel
  dsimp only
  exact .andThen (.andThen (.andThen (.andThen (.andThen (.andThen (.andThen
    (.start (tellGantry_changes _ _ _) (modChannel_changes _ _ _)) (putOutIfLit_changes _ _)) (modChannel_changes _ _ _))
    (removeWaiter_changes _ _)) (modChannel_changes _ _ _)) (settleMark_changes _ _)) (modChannel_changes _ _ _))
    (mark_changes _ _)

theorem State.guardHolds_changes (g : Gantry) : s.ChangesOnly holdParts (s.guardHolds g) := by
  unfold State.guardHolds
  dsimp only
  split
  · exact .refl
  · split
    · exact .refl
    · exact .start (modChannel_changes _ _ _) (mark_changes _ _)
  · exact holdChannel_changes _ _ _

theorem State.lossReported_changes (g : Gantry) : s.ChangesOnly runParts (s.lossReported g) := by
  unfold State.lossReported
  split
  · exact .andThen (.start (settleMark_changes _ _) (modChannel_changes _ _ _)) (continueRun_changes _ _)
  · exact .start (modChannel_changes _ _ _) (holdChannel_changes _ _ _)

theorem State.pickUp_changes (g : Gantry) : s.ChangesOnly runParts (s.pickUp g) := by
  unfold State.pickUp
  dsimp only
  split
  · split
    · exact beginRepierce_changes _ _ _ _
    · exact pickUpWindow_changes _ _
  · split
    · exact .start (modChannel_changes _ _ _) (request_changes _ _)
    · exact .start (modChannel_changes _ _ _) (request_changes _ _)
    · exact .andThen (.start (modChannel_changes _ _ _) (beginCheck_changes _ _ _ _ _)) (continueRun_changes _ _)
    · exact .start (modChannel_changes _ _ _) (continueRun_changes _ _)

theorem State.resumeRun_changes (g : Gantry) : s.ChangesOnly runParts (s.resumeRun g) :=
  .start (modChannel_changes _ _ _) (pickUp_changes _ _)

theorem State.startRun_changes (g : Gantry) (b : BayIx) : s.ChangesOnly runParts (s.startRun g b) := by
  unfold State.startRun
  dsimp only
  have h := ChangesOnly.andThen (rs := runParts) (.start (startBurning_changes s b) (recomputeAll_changes _))
    (modChannel_changes _ g (fun c => c.started b ((s.startBurning b).recomputeAll.monitor g).params))
  split
  · exact h.andThen (holdChannel_changes _ _ _)
  · exact h.andThen (continueRun_changes _ _)

theorem State.takeSerial_changes (g : Gantry) : s.ChangesOnly runParts (s.takeSerial g) := by
  unfold State.takeSerial
  split
  · dsimp only
    split
    · exact .andThen (.andThen (.start (modHeat_changes _ _ _) (makeTrace_changes _ _)) (tellGantry_changes _ _ _))
        (modChannel_changes _ _ _)
    · exact .andThen (.andThen (.start (traceWithoutSerial_changes _ _ _ _) (putOut_changes _ _)) (markDone_changes _ _))
        (continueRun_changes _ _)
  · exact .refl

theorem State.markPositioned_changes (g : Gantry) : s.ChangesOnly runParts (s.markPositioned g) := by
  unfold State.markPositioned
  split
  · exact .start (modChannel_changes _ _ _) (request_changes _ _)
  · exact .refl

theorem State.markWritten_changes (g : Gantry) : s.ChangesOnly runParts (s.markWritten g) := by
  unfold State.markWritten
  split
  · exact .andThen (.andThen (.start (putOut_changes _ _) (settleTrace_changes _ _ _)) (markDone_changes _ _))
      (continueRun_changes _ _)
  · exact .refl

theorem State.entriesLeft_changes (g : Gantry) (gone : List WindowEntry) : s.ChangesOnly runParts (s.entriesLeft g gone) := by
  unfold State.entriesLeft
  split
  · exact markPositioned_changes _ _
  · split
    · exact markWritten_changes _ _
    · exact .start (activateCut_changes _ _) (continueRun_changes _ _)

theorem State.doneReported_changes (g : Gantry) (seq : Byte) : s.ChangesOnly runParts (s.doneReported g seq) := by
  unfold State.doneReported
  dsimp only
  split
  · exact (gantryStray_changes _ _).weaken
  · split
    · exact (gantryStray_changes _ _).weaken
    · exact .start (modChannel_changes _ _ _) (entriesLeft_changes _ _ _)

theorem State.haltedReported_changes (g : Gantry) (x y : Nat) : s.ChangesOnly [.channels] (s.haltedReported g x y) := by
  unfold State.haltedReported
  split
  · exact gantryStray_changes _ _
  · exact modChannel_changes _ _ _

theorem State.statusReported_changes (g : Gantry) (code : Byte) : s.ChangesOnly runParts (s.statusReported g code) := by
  unfold State.statusReported
  dsimp only
  split
  · exact (modChannel_changes _ _ _).weaken
  · exact .start (modChannel_changes _ _ _) (endIfRunning_changes _ _ _)

theorem State.gantryLost_changes (g : Gantry) : s.ChangesOnly runParts (s.gantryLost g) :=
  .start (modChannel_changes _ _ _) (endIfRunning_changes _ _ _)

theorem State.stableReported_changes (g : Gantry) : s.ChangesOnly runParts (s.stableReported g) := by
  unfold State.stableReported
  split
  · split
    · exact stepDown_changes _ _
    · exact (modChannel_changes _ _ _).weaken
  · exact stepDown_changes _ _
  · exact takeSerial_changes _ _
  · exact .refl

theorem State.declareStable_changes (g : Gantry) : s.ChangesOnly runParts (s.declareStable g) :=
  .andThen (.start (modMonitor_changes _ _ _) (mark_changes _ _)) (stableReported_changes _ _)

theorem State.strikeSample_changes (g : Gantry) (q : Quality) : s.ChangesOnly runParts (s.strikeSample g q) := by
  unfold State.strikeSample
  split
  · exact (modMonitor_changes _ _ _).weaken
  · dsimp only
    split
    · exact .start (modMonitor_changes _ _ _) (declareStable_changes _ _)
    · exact (modMonitor_changes _ _ _).weaken

theorem State.loseArc_changes (g : Gantry) : s.ChangesOnly runParts (s.loseArc g) :=
  .andThen (.andThen (.start (goDark_changes _ _) (modMonitor_changes _ _ _)) (mark_changes _ _)) (lossReported_changes _ _)

theorem State.disturb_changes (g : Gantry) : s.ChangesOnly [.monitors, .notices, .sent] (s.disturb g) :=
  .andThen (.start (modMonitor_changes _ _ _) (mark_changes _ _)) (tellGantry_changes _ _ _)

theorem State.calm_changes (g : Gantry) : s.ChangesOnly [.monitors, .notices, .sent] (s.calm g) :=
  .andThen (.start (modMonitor_changes _ _ _) (mark_changes _ _)) (tellGantry_changes _ _ _)

theorem State.windowSample_changes (g : Gantry) (q : Quality) : s.ChangesOnly runParts (s.windowSample g q) := by
  unfold State.windowSample
  dsimp only
  refine .trans (t := s.modMonitor g (fun m => m.withSample (s.channel g).params.window q))
    (modMonitor_changes _ _ _).weaken ?_
  split
  · exact loseArc_changes _ _
  · split
    · split
      · exact (disturb_changes _ _).weaken
      · exact .refl
    · split
      · exact (calm_changes _ _).weaken
      · exact .refl

theorem State.sampleReported_changes (g : Gantry) (v : Nat) : s.ChangesOnly runParts (s.sampleReported g v) := by
  unfold State.sampleReported
  dsimp only
  split
  · exact (modMonitor_changes _ _ _).weaken
  · split
    · exact .start (modMonitor_changes _ _ _) (strikeSample_changes _ _ _)
    · exact .start (modMonitor_changes _ _ _) (windowSample_changes _ _ _)

theorem State.strikeFailed_changes (g : Gantry) : s.ChangesOnly runParts (s.strikeFailed g) := by
  unfold State.strikeFailed
  split
  · exact .andThen (.start (putOut_changes _ _) (settleMark_changes _ _)) (continueRun_changes _ _)
  · exact endRun_changes _ _ _

theorem State.strikeExpired_changes (g : Gantry) : s.ChangesOnly runParts (s.strikeExpired g) := by
  unfold State.strikeExpired
  dsimp only
  split
  · exact .andThen (.start (tellGantry_changes _ _ _) (torchOn_changes _ _)) (modMonitor_changes _ _ _)
  · exact .start (modMonitor_changes _ _ _) (strikeFailed_changes _ _)

theorem State.dwellExpired_changes (g : Gantry) : s.ChangesOnly runParts (s.dwellExpired g) :=
  .start (modChannel_changes _ _ _) (stepDown_changes _ _)

theorem State.checkWaiter_changes (line : LineIx) (g : Gantry) : s.ChangesOnly runParts (s.checkWaiter line g) := by
  unfold State.checkWaiter
  dsimp only
  split
  · split
    · exact .andThen (.start (modChannel_changes _ _ _) (stepDone_changes _ _)) (continueRun_changes _ _)
    · exact .refl
  · exact .refl

theorem State.checkWaiters_changes (line : LineIx) : s.ChangesOnly runParts (s.checkWaiters line) :=
  foldl_changes _ _ (fun s g => checkWaiter_changes s line g) _

/-! ## Open orders -/

/-- What an order's claims, lift and set-down can change. -/
def orderParts : List Part := [.bays, .remnants, .composer, .dispatcher, .passDue, .cranes, .notices, .sent]

theorem State.claimSource_changes (site : Site) (n : Nat) :
    s.ChangesOnly [.bays, .notices, .remnants] (s.claimSource site n) := by
  unfold State.claimSource
  split
  · exact (claimSourceBay_changes _ _ _).weaken
  · split
    · exact (callRemnant_changes _ _).weaken
    · exact .refl
  · exact .refl

theorem State.claimDest_changes (site : Site) (n : Nat) : s.ChangesOnly [.bays, .notices] (s.claimDest site n) := by
  unfold State.claimDest
  split
  · exact claimDestBay_changes _ _ _
  · exact .refl

/-- An update of the dispatcher that keeps its settings and its flag. -/
theorem State.modDispatcher_changes (f : Dispatcher → Dispatcher) (hs : ∀ d, (f d).settings = d.settings)
    (hp : ∀ d, (f d).passDue = d.passDue) : s.ChangesOnly [.dispatcher] (s.modDispatcher f) := by
  intro p h
  cases p <;> first | rfl | exact hs _ | exact hp _ | exact absurd (by decide) h

theorem State.acceptOrder_changes (u : Submission) : s.ChangesOnly orderParts (s.acceptOrder u) := by
  unfold State.acceptOrder
  dsimp only
  refine .andThen (.andThen ?_ (modDispatcher_changes _ _ ?_ ?_)) (callPass_changes _)
  · split
    · exact .andThen (.start (claimSource_changes _ _ _) (claimDest_changes _ _ _)) (addRef_changes _ _)
    · exact .start (claimSource_changes _ _ _) (claimDest_changes _ _ _)
  · exact fun _ => rfl
  · exact fun _ => rfl

theorem State.releaseDest_changes (o : Order) : s.ChangesOnly [.bays, .notices] (s.releaseDest o) := by
  unfold State.releaseDest
  split
  · exact releaseDestBay_changes _ _ _
  · exact .refl

theorem State.releaseSource_changes (o : Order) : s.ChangesOnly [.bays, .notices, .remnants] (s.releaseSource o) := by
  unfold State.releaseSource
  split
  · exact (releaseSourceBay_changes _ _ _ _).weaken
  · split
    · exact (restoreRemnant_changes _ _ _).weaken
    · exact .refl
  · exact .refl

theorem State.dropLoad_changes (o : Order) : s.ChangesOnly [.composer] (s.dropLoad o) := by
  unfold State.dropLoad
  split
  · exact dropRef_changes _ _
  · exact .refl

theorem State.undoOrder_changes (o : Order) : s.ChangesOnly orderParts (s.undoOrder o) := by
  unfold State.undoOrder
  split
  · exact .andThen (.start (releaseDest_changes _ _) (releaseSource_changes _ _)) (dropLoad_changes _ _)
  · exact (releaseDest_changes _ _).weaken

theorem State.closeOrder_changes (o : Order) (final : FinalState) (cause : Option EndCause) :
    s.ChangesOnly [.dispatcher, .passDue, .cranes, .notices] (s.closeOrder o final cause) := by
  unfold State.closeOrder
  dsimp only
  refine .andThen ?_ (callPass_changes _)
  split
  · refine .andThen (.andThen (modDispatcher_changes _ _ ?_ ?_).weaken (modCrane_changes _ _ _)) (mark_changes _ _) <;>
      exact fun _ => rfl
  · refine (modDispatcher_changes _ _ ?_ ?_).weaken <;> exact fun _ => rfl

theorem State.endUndone_changes (o : Order) (final : FinalState) (cause : EndCause) :
    s.ChangesOnly orderParts (s.endUndone o final cause) :=
  .start (undoOrder_changes _ _) (closeOrder_changes _ _ _ _)

theorem State.liftFromBay_changes (site : Site) : s.ChangesOnly [.bays, .notices] (s.liftFromBay site) := by
  unfold State.liftFromBay
  split
  · exact .start (modBay_changes _ _ _) (bayChanged_changes _ _)
  · exact .refl

theorem State.lift_changes (c : CraneId) (o : Order) : s.ChangesOnly orderParts (s.lift c o) := by
  unfold State.lift
  dsimp only
  refine .andThen (.andThen (.andThen (.andThen ?_ (modOrder_changes _ _ _)) (modCrane_changes _ _ _))
    (travelTo_changes _ _ _)) (recomputeOther_changes _ _)
  split
  · exact .start (liftFromBay_changes _ _) (liftRemnant_changes _ _ _)
  · exact (liftFromBay_changes _ _).weaken

theorem State.landLoad_changes (dest : Site) (r : LoadRecord) : s.ChangesOnly orderParts (s.landLoad dest r) := by
  unfold State.landLoad
  dsimp only
  have h : s.ChangesOnly orderParts (match r.remnant with | some i => s.landRemnant i dest | none => s) := by
    split
    · exact (landRemnant_changes _ _ _).weaken
    · exact .refl
  split
  · exact (h.andThen (modBay_changes _ _ _)).andThen (bayChanged_changes _ _)
  · exact h.andThen (dropRef_changes _ _)

theorem State.finishSetDown_changes (c : CraneId) (o : Order) : s.ChangesOnly orderParts (s.finishSetDown c o) := by
  unfold State.finishSetDown
  dsimp only
  refine .andThen (.andThen (.andThen ?_ (modCrane_changes _ _ _)) (closeOrder_changes _ _ _ _)) (becomeIdle_changes _ _)
  split
  · exact landLoad_changes _ _ _
  · exact .refl

theorem State.finishWithdrawal_changes (c : CraneId) (o : Order) : s.ChangesOnly orderParts (s.finishWithdrawal c o) :=
  .andThen (.andThen (endUndone_changes _ _ _ _) (modCrane_changes _ _ _)) (becomeIdle_changes _ _)

theorem State.promote_changes (n : Nat) : s.ChangesOnly [.dispatcher, .passDue] (s.promote n) := by
  refine .andThen (.andThen (modDispatcher_changes _ _ ?_ ?_).weaken (modOrder_changes _ _ _)) (callPass_changes _) <;>
    exact fun _ => rfl

theorem State.ageOrder_changes (n : Nat) : s.ChangesOnly [.dispatcher, .passDue] (s.ageOrder n) := (modOrder_changes _ _ _).weaken

theorem State.promoteDue_changes : s.ChangesOnly [.dispatcher, .passDue] s.promoteDue := by
  unfold State.promoteDue
  dsimp only
  split
  · exact .refl
  · exact foldl_changes _ _ promote_changes _

/-! ## Hall and lines -/

/-- What a change of hall state can change. -/
def hallParts : List Part := [.hall, .budget, .notices, .channels, .sent, .monitors, .cranes, .dispatcher, .passDue]

theorem State.setHallRecord_changes (state : HallState) (cause : HallCause) :
    s.ChangesOnly [.hall, .notices] (s.setHallRecord state cause) := by
  unfold State.setHallRecord
  dsimp only
  split
  · exact .start (modHall_changes _ _) (mark_changes _ _)
  · exact (modHall_changes _ _).weaken

theorem State.parkCrane_changes (c : CraneId) : s.ChangesOnly motionParts (s.parkCrane c) := by
  unfold State.parkCrane
  split
  · exact sendToPark_changes _ _
  · exact sendToPark_changes _ _
  · exact .refl

theorem State.wakeCrane_changes (c : CraneId) : s.ChangesOnly motionParts (s.wakeCrane c) := by
  unfold State.wakeCrane
  dsimp only
  split
  · exact restCrane_changes _ _ _
  · split
    · exact .start (tellCrane_changes _ _ _) (restCrane_changes _ _ _)
    · exact .refl

theorem State.hallCranes_changes (old new : HallState) : s.ChangesOnly motionParts (s.hallCranes old new) := by
  unfold State.hallCranes
  split
  · exact .start (parkCrane_changes _ _) (parkCrane_changes _ _)
  · split
    · exact .start (wakeCrane_changes _ _) (wakeCrane_changes _ _)
    · exact .refl

theorem State.changeHall_changes (state : HallState) (cause : HallCause) :
    s.ChangesOnly hallParts (s.changeHall state cause) := by
  unfold State.changeHall
  dsimp only
  have h := ChangesOnly.andThen (rs := hallParts) (.start (setHallRecord_changes s state cause)
    (setHallGate_changes _ state.gateCause)) (hallCranes_changes _ s.hall.state state)
  split
  · exact (h.andThen (callPass_changes _)).andThen (runDuePass_changes _)
  · exact h

theorem State.enterHall_changes (state : HallState) (cause : HallCause) :
    s.ChangesOnly hallParts (s.enterHall state cause) := by
  unfold State.enterHall
  dsimp only
  split
  · exact .start (changeHall_changes _ _ _) (changeHall_changes _ _ _)
  · exact changeHall_changes _ _ _

/-- What the report of an aggregate, or a line's change, can change beside the lines. -/
def reportParts : List Part :=
  [.hall, .budget, .notices, .channels, .sent, .monitors, .cranes, .dispatcher, .passDue, .composer, .bays]

theorem State.stopHall_changes : s.ChangesOnly reportParts s.stopHall := by
  have h1 : ∀ u : State, u.ChangesOnly reportParts (allChannels.foldl (fun s g => s.endIfRunning g .hallStop) u) :=
    fun u => (foldl_changes u _ (fun s g => endIfRunning_changes s g _) _).weaken
  unfold State.stopHall
  dsimp only
  have h := ((h1 s).andThen (stopCrane_changes _ .c1 .hallStop)).andThen (stopCrane_changes _ .c2 .hallStop)
  split
  · exact h
  · exact h.andThen (setHallRecord_changes _ _ _)
  · exact h.andThen (enterHall_changes _ _ _)
  · exact h.andThen (enterHall_changes _ _ _)

theorem State.wakeByLine_changes : s.ChangesOnly hallParts s.wakeByLine := by
  unfold State.wakeByLine
  split
  · exact enterHall_changes _ _ _
  · exact .refl

theorem State.report_changes (a : Aggregate) (active : Bool) : s.ChangesOnly reportParts (s.report a active) := by
  unfold State.report
  split
  · dsimp only
    refine .andThen (.andThen ?_ (guardHaltsCrane_changes _ _ _)) (guardHaltsCrane_changes _ _ _)
    split
    · exact (guardHolds_changes _ _).weaken
    · exact .refl
  · exact .start (guardReleasesCrane_changes _ _ _) (guardReleasesCrane_changes _ _ _)
  · exact (overloadBegins_changes _ _).weaken
  · exact stopHall_changes _
  · exact (wakeByLine_changes _).weaken
  · exact .refl

theorem State.reportIfChanged_changes (a : Option Aggregate) (before : State) :
    s.ChangesOnly reportParts (s.reportIfChanged a before) := by
  unfold State.reportIfChanged
  split
  · exact .refl
  · split
    · exact .refl
    · exact report_changes _ _ _

theorem State.takeChange_changes (i : LineIx) : s.ChangesOnly (.lines :: reportParts) (s.takeChange i) := by
  unfold State.takeChange
  dsimp only
  refine .andThen (.andThen ?_ (reportIfChanged_changes _ _ _)) (checkWaiters_changes _ _)
  split
  · exact .start (modLine_changes _ _ _) (mark_changes _ _)
  · exact (modLine_changes _ _ _).weaken

theorem State.inputChange_changes (i : LineIx) (level : Level) :
    s.ChangesOnly (.lines :: reportParts) (s.inputChange i level) := by
  unfold State.inputChange
  dsimp only
  have h : s.ChangesOnly (.lines :: reportParts) (s.modLine i (fun l => { l with input := level })) :=
    (modLine_changes _ _ _).weaken
  split
  · split
    · exact h.andThen (modLine_changes _ _ _)
    · exact h
  · split
    · exact h
    · split
      · exact h.andThen (takeChange_changes _ _)
      · exact h.andThen (modLine_changes _ _ _)

theorem State.configureLine_changes (i : LineIx) (function : LineFunction) (activeLevel : Level) (filterTime : Nat)
    (edge : LatchEdge) :
    s.ChangesOnly (.lines :: reportParts) (s.configureLine i function activeLevel filterTime edge) := by
  unfold State.configureLine
  dsimp only
  have h := ChangesOnly.start (rs := .lines :: reportParts)
    (modLine_changes s i (fun l => l.configured function activeLevel filterTime edge))
    (reportIfChanged_changes _ (s.line i).function.aggregate s)
  have h2 : ∀ (u : State) (p : Prop) [Decidable p], u.ChangesOnly (.lines :: reportParts)
      (if p then u else u.reportIfChanged function.aggregate s) := by
    intro u p _
    split
    · exact .refl
    · exact (reportIfChanged_changes _ _ _).weaken
  have h3 : ∀ (u : State) (p : Prop) [Decidable p], u.ChangesOnly (.lines :: reportParts)
      (if p then u else u.checkWaiters i) := by
    intro u p _
    split
    · exact .refl
    · exact (checkWaiters_changes _ _).weaken
  exact (h.trans (h2 _ _)).trans (h3 _ _)

end Sys2Proof.Machine
end

