-- ==== Sys2Proof/Laws/State.lean ====
section
/-! SUPPORT. What each update of the state leaves and what it changes: one lemma per field per update. -/

namespace Sys2Proof.Machine

variable (s : State)

@[simp] theorem State.modBayTable_link (f : BayTable → BayTable) : (s.modBayTable f).link = s.link := rfl
@[simp] theorem State.modBayTable_receivers (f : BayTable → BayTable) : (s.modBayTable f).receivers = s.receivers := rfl
@[simp] theorem State.modBayTable_hall (f : BayTable → BayTable) : (s.modBayTable f).hall = s.hall := rfl
@[simp] theorem State.modBayTable_lines (f : BayTable → BayTable) : (s.modBayTable f).lines = s.lines := rfl
@[simp] theorem State.modBayTable_bayTable (f : BayTable → BayTable) : (s.modBayTable f).bayTable = f s.bayTable := rfl
@[simp] theorem State.modBayTable_channels (f : BayTable → BayTable) : (s.modBayTable f).channels = s.channels := rfl
@[simp] theorem State.modBayTable_monitors (f : BayTable → BayTable) : (s.modBayTable f).monitors = s.monitors := rfl
@[simp] theorem State.modBayTable_budget (f : BayTable → BayTable) : (s.modBayTable f).budget = s.budget := rfl
@[simp] theorem State.modBayTable_composer (f : BayTable → BayTable) : (s.modBayTable f).composer = s.composer := rfl
@[simp] theorem State.modBayTable_remnants (f : BayTable → BayTable) : (s.modBayTable f).remnants = s.remnants := rfl
@[simp] theorem State.modBayTable_dispatcher (f : BayTable → BayTable) : (s.modBayTable f).dispatcher = s.dispatcher := rfl
@[simp] theorem State.modBayTable_cranes (f : BayTable → BayTable) : (s.modBayTable f).cranes = s.cranes := rfl
@[simp] theorem State.modBayTable_sent (f : BayTable → BayTable) : (s.modBayTable f).sent = s.sent := rfl
@[simp] theorem State.modBayTable_pending (f : BayTable → BayTable) : (s.modBayTable f).pending = s.pending := rfl
@[simp] theorem State.modBayTable_channel' (f : BayTable → BayTable) (h : Gantry) : (s.modBayTable f).channel h = s.channel h := rfl
@[simp] theorem State.modBayTable_monitor' (f : BayTable → BayTable) (h : Gantry) : (s.modBayTable f).monitor h = s.monitor h := rfl
@[simp] theorem State.modBayTable_booking' (f : BayTable → BayTable) (h : Gantry) : (s.modBayTable f).booking h = s.booking h := rfl
@[simp] theorem State.modBayTable_line' (f : BayTable → BayTable) (i : LineIx) : (s.modBayTable f).line i = s.line i := rfl
@[simp] theorem State.modBayTable_heat' (f : BayTable → BayTable) (k : HeatIx) : (s.modBayTable f).heat k = s.heat k := rfl
@[simp] theorem State.modBayTable_remnant' (f : BayTable → BayTable) (j : RemnantIx) : (s.modBayTable f).remnant j = s.remnant j := rfl
@[simp] theorem State.modBayTable_crane' (f : BayTable → BayTable) (d : CraneId) : (s.modBayTable f).crane d = s.crane d := rfl
@[simp] theorem State.modBayTable_order' (f : BayTable → BayTable) (n : Nat) : (s.modBayTable f).order n = s.order n := rfl
@[simp] theorem State.modBayTable_settings' (f : BayTable → BayTable) : (s.modBayTable f).settings = s.settings := rfl
@[simp] theorem State.modBayTable_notice' (f : BayTable → BayTable) (q : NoticeClass) : (s.modBayTable f).notice q = s.notice q := rfl

@[simp] theorem State.modBay_link (a : BayIx) (f : Bay → Bay) : (s.modBay a f).link = s.link := rfl
@[simp] theorem State.modBay_receivers (a : BayIx) (f : Bay → Bay) : (s.modBay a f).receivers = s.receivers := rfl
@[simp] theorem State.modBay_hall (a : BayIx) (f : Bay → Bay) : (s.modBay a f).hall = s.hall := rfl
@[simp] theorem State.modBay_lines (a : BayIx) (f : Bay → Bay) : (s.modBay a f).lines = s.lines := rfl
@[simp] theorem State.modBay_bayTable (a : BayIx) (f : Bay → Bay) : (s.modBay a f).bayTable = { s.bayTable with bays := put s.bayTable.bays a (f (s.bayTable.bays.get a)) } := rfl
@[simp] theorem State.modBay_channels (a : BayIx) (f : Bay → Bay) : (s.modBay a f).channels = s.channels := rfl
@[simp] theorem State.modBay_monitors (a : BayIx) (f : Bay → Bay) : (s.modBay a f).monitors = s.monitors := rfl
@[simp] theorem State.modBay_budget (a : BayIx) (f : Bay → Bay) : (s.modBay a f).budget = s.budget := rfl
@[simp] theorem State.modBay_composer (a : BayIx) (f : Bay → Bay) : (s.modBay a f).composer = s.composer := rfl
@[simp] theorem State.modBay_remnants (a : BayIx) (f : Bay → Bay) : (s.modBay a f).remnants = s.remnants := rfl
@[simp] theorem State.modBay_dispatcher (a : BayIx) (f : Bay → Bay) : (s.modBay a f).dispatcher = s.dispatcher := rfl
@[simp] theorem State.modBay_cranes (a : BayIx) (f : Bay → Bay) : (s.modBay a f).cranes = s.cranes := rfl
@[simp] theorem State.modBay_sent (a : BayIx) (f : Bay → Bay) : (s.modBay a f).sent = s.sent := rfl
@[simp] theorem State.modBay_pending (a : BayIx) (f : Bay → Bay) : (s.modBay a f).pending = s.pending := rfl
@[simp] theorem State.modBay_channel' (a : BayIx) (f : Bay → Bay) (h : Gantry) : (s.modBay a f).channel h = s.channel h := rfl
@[simp] theorem State.modBay_monitor' (a : BayIx) (f : Bay → Bay) (h : Gantry) : (s.modBay a f).monitor h = s.monitor h := rfl
@[simp] theorem State.modBay_booking' (a : BayIx) (f : Bay → Bay) (h : Gantry) : (s.modBay a f).booking h = s.booking h := rfl
@[simp] theorem State.modBay_line' (a : BayIx) (f : Bay → Bay) (i : LineIx) : (s.modBay a f).line i = s.line i := rfl
@[simp] theorem State.modBay_heat' (a : BayIx) (f : Bay → Bay) (k : HeatIx) : (s.modBay a f).heat k = s.heat k := rfl
@[simp] theorem State.modBay_remnant' (a : BayIx) (f : Bay → Bay) (j : RemnantIx) : (s.modBay a f).remnant j = s.remnant j := rfl
@[simp] theorem State.modBay_crane' (a : BayIx) (f : Bay → Bay) (d : CraneId) : (s.modBay a f).crane d = s.crane d := rfl
@[simp] theorem State.modBay_order' (a : BayIx) (f : Bay → Bay) (n : Nat) : (s.modBay a f).order n = s.order n := rfl
@[simp] theorem State.modBay_settings' (a : BayIx) (f : Bay → Bay) : (s.modBay a f).settings = s.settings := rfl
@[simp] theorem State.modBay_notice' (a : BayIx) (f : Bay → Bay) (q : NoticeClass) : (s.modBay a f).notice q = s.notice q := rfl

@[simp] theorem State.modChannel_link (g : Gantry) (f : Channel → Channel) : (s.modChannel g f).link = s.link := rfl
@[simp] theorem State.modChannel_receivers (g : Gantry) (f : Channel → Channel) : (s.modChannel g f).receivers = s.receivers := rfl
@[simp] theorem State.modChannel_hall (g : Gantry) (f : Channel → Channel) : (s.modChannel g f).hall = s.hall := rfl
@[simp] theorem State.modChannel_lines (g : Gantry) (f : Channel → Channel) : (s.modChannel g f).lines = s.lines := rfl
@[simp] theorem State.modChannel_bayTable (g : Gantry) (f : Channel → Channel) : (s.modChannel g f).bayTable = s.bayTable := rfl
@[simp] theorem State.modChannel_channels (g : Gantry) (f : Channel → Channel) : (s.modChannel g f).channels = put s.channels g (f (s.channel g)) := rfl
@[simp] theorem State.modChannel_monitors (g : Gantry) (f : Channel → Channel) : (s.modChannel g f).monitors = s.monitors := rfl
@[simp] theorem State.modChannel_budget (g : Gantry) (f : Channel → Channel) : (s.modChannel g f).budget = s.budget := rfl
@[simp] theorem State.modChannel_composer (g : Gantry) (f : Channel → Channel) : (s.modChannel g f).composer = s.composer := rfl
@[simp] theorem State.modChannel_remnants (g : Gantry) (f : Channel → Channel) : (s.modChannel g f).remnants = s.remnants := rfl
@[simp] theorem State.modChannel_dispatcher (g : Gantry) (f : Channel → Channel) : (s.modChannel g f).dispatcher = s.dispatcher := rfl
@[simp] theorem State.modChannel_cranes (g : Gantry) (f : Channel → Channel) : (s.modChannel g f).cranes = s.cranes := rfl
@[simp] theorem State.modChannel_sent (g : Gantry) (f : Channel → Channel) : (s.modChannel g f).sent = s.sent := rfl
@[simp] theorem State.modChannel_pending (g : Gantry) (f : Channel → Channel) : (s.modChannel g f).pending = s.pending := rfl
@[simp] theorem State.modChannel_bay' (g : Gantry) (f : Channel → Channel) (b : BayIx) : (s.modChannel g f).bay b = s.bay b := rfl
@[simp] theorem State.modChannel_monitor' (g : Gantry) (f : Channel → Channel) (h : Gantry) : (s.modChannel g f).monitor h = s.monitor h := rfl
@[simp] theorem State.modChannel_booking' (g : Gantry) (f : Channel → Channel) (h : Gantry) : (s.modChannel g f).booking h = s.booking h := rfl
@[simp] theorem State.modChannel_line' (g : Gantry) (f : Channel → Channel) (i : LineIx) : (s.modChannel g f).line i = s.line i := rfl
@[simp] theorem State.modChannel_heat' (g : Gantry) (f : Channel → Channel) (k : HeatIx) : (s.modChannel g f).heat k = s.heat k := rfl
@[simp] theorem State.modChannel_remnant' (g : Gantry) (f : Channel → Channel) (j : RemnantIx) : (s.modChannel g f).remnant j = s.remnant j := rfl
@[simp] theorem State.modChannel_crane' (g : Gantry) (f : Channel → Channel) (d : CraneId) : (s.modChannel g f).crane d = s.crane d := rfl
@[simp] theorem State.modChannel_order' (g : Gantry) (f : Channel → Channel) (n : Nat) : (s.modChannel g f).order n = s.order n := rfl
@[simp] theorem State.modChannel_settings' (g : Gantry) (f : Channel → Channel) : (s.modChannel g f).settings = s.settings := rfl
@[simp] theorem State.modChannel_layout' (g : Gantry) (f : Channel → Channel) : (s.modChannel g f).layout = s.layout := rfl
@[simp] theorem State.modChannel_notice' (g : Gantry) (f : Channel → Channel) (q : NoticeClass) : (s.modChannel g f).notice q = s.notice q := rfl

@[simp] theorem State.modMonitor_link (g : Gantry) (f : Monitor → Monitor) : (s.modMonitor g f).link = s.link := rfl
@[simp] theorem State.modMonitor_receivers (g : Gantry) (f : Monitor → Monitor) : (s.modMonitor g f).receivers = s.receivers := rfl
@[simp] theorem State.modMonitor_hall (g : Gantry) (f : Monitor → Monitor) : (s.modMonitor g f).hall = s.hall := rfl
@[simp] theorem State.modMonitor_lines (g : Gantry) (f : Monitor → Monitor) : (s.modMonitor g f).lines = s.lines := rfl
@[simp] theorem State.modMonitor_bayTable (g : Gantry) (f : Monitor → Monitor) : (s.modMonitor g f).bayTable = s.bayTable := rfl
@[simp] theorem State.modMonitor_channels (g : Gantry) (f : Monitor → Monitor) : (s.modMonitor g f).channels = s.channels := rfl
@[simp] theorem State.modMonitor_monitors (g : Gantry) (f : Monitor → Monitor) : (s.modMonitor g f).monitors = put s.monitors g (f (s.monitor g)) := rfl
@[simp] theorem State.modMonitor_budget (g : Gantry) (f : Monitor → Monitor) : (s.modMonitor g f).budget = s.budget := rfl
@[simp] theorem State.modMonitor_composer (g : Gantry) (f : Monitor → Monitor) : (s.modMonitor g f).composer = s.composer := rfl
@[simp] theorem State.modMonitor_remnants (g : Gantry) (f : Monitor → Monitor) : (s.modMonitor g f).remnants = s.remnants := rfl
@[simp] theorem State.modMonitor_dispatcher (g : Gantry) (f : Monitor → Monitor) : (s.modMonitor g f).dispatcher = s.dispatcher := rfl
@[simp] theorem State.modMonitor_cranes (g : Gantry) (f : Monitor → Monitor) : (s.modMonitor g f).cranes = s.cranes := rfl
@[simp] theorem State.modMonitor_sent (g : Gantry) (f : Monitor → Monitor) : (s.modMonitor g f).sent = s.sent := rfl
@[simp] theorem State.modMonitor_pending (g : Gantry) (f : Monitor → Monitor) : (s.modMonitor g f).pending = s.pending := rfl
@[simp] theorem State.modMonitor_bay' (g : Gantry) (f : Monitor → Monitor) (b : BayIx) : (s.modMonitor g f).bay b = s.bay b := rfl
@[simp] theorem State.modMonitor_channel' (g : Gantry) (f : Monitor → Monitor) (h : Gantry) : (s.modMonitor g f).channel h = s.channel h := rfl
@[simp] theorem State.modMonitor_booking' (g : Gantry) (f : Monitor → Monitor) (h : Gantry) : (s.modMonitor g f).booking h = s.booking h := rfl
@[simp] theorem State.modMonitor_line' (g : Gantry) (f : Monitor → Monitor) (i : LineIx) : (s.modMonitor g f).line i = s.line i := rfl
@[simp] theorem State.modMonitor_heat' (g : Gantry) (f : Monitor → Monitor) (k : HeatIx) : (s.modMonitor g f).heat k = s.heat k := rfl
@[simp] theorem State.modMonitor_remnant' (g : Gantry) (f : Monitor → Monitor) (j : RemnantIx) : (s.modMonitor g f).remnant j = s.remnant j := rfl
@[simp] theorem State.modMonitor_crane' (g : Gantry) (f : Monitor → Monitor) (d : CraneId) : (s.modMonitor g f).crane d = s.crane d := rfl
@[simp] theorem State.modMonitor_order' (g : Gantry) (f : Monitor → Monitor) (n : Nat) : (s.modMonitor g f).order n = s.order n := rfl
@[simp] theorem State.modMonitor_settings' (g : Gantry) (f : Monitor → Monitor) : (s.modMonitor g f).settings = s.settings := rfl
@[simp] theorem State.modMonitor_layout' (g : Gantry) (f : Monitor → Monitor) : (s.modMonitor g f).layout = s.layout := rfl
@[simp] theorem State.modMonitor_notice' (g : Gantry) (f : Monitor → Monitor) (q : NoticeClass) : (s.modMonitor g f).notice q = s.notice q := rfl

@[simp] theorem State.modBudget_link (f : Budget → Budget) : (s.modBudget f).link = s.link := rfl
@[simp] theorem State.modBudget_receivers (f : Budget → Budget) : (s.modBudget f).receivers = s.receivers := rfl
@[simp] theorem State.modBudget_hall (f : Budget → Budget) : (s.modBudget f).hall = s.hall := rfl
@[simp] theorem State.modBudget_lines (f : Budget → Budget) : (s.modBudget f).lines = s.lines := rfl
@[simp] theorem State.modBudget_bayTable (f : Budget → Budget) : (s.modBudget f).bayTable = s.bayTable := rfl
@[simp] theorem State.modBudget_channels (f : Budget → Budget) : (s.modBudget f).channels = s.channels := rfl
@[simp] theorem State.modBudget_monitors (f : Budget → Budget) : (s.modBudget f).monitors = s.monitors := rfl
@[simp] theorem State.modBudget_budget (f : Budget → Budget) : (s.modBudget f).budget = f s.budget := rfl
@[simp] theorem State.modBudget_composer (f : Budget → Budget) : (s.modBudget f).composer = s.composer := rfl
@[simp] theorem State.modBudget_remnants (f : Budget → Budget) : (s.modBudget f).remnants = s.remnants := rfl
@[simp] theorem State.modBudget_dispatcher (f : Budget → Budget) : (s.modBudget f).dispatcher = s.dispatcher := rfl
@[simp] theorem State.modBudget_cranes (f : Budget → Budget) : (s.modBudget f).cranes = s.cranes := rfl
@[simp] theorem State.modBudget_sent (f : Budget → Budget) : (s.modBudget f).sent = s.sent := rfl
@[simp] theorem State.modBudget_pending (f : Budget → Budget) : (s.modBudget f).pending = s.pending := rfl
@[simp] theorem State.modBudget_bay' (f : Budget → Budget) (b : BayIx) : (s.modBudget f).bay b = s.bay b := rfl
@[simp] theorem State.modBudget_channel' (f : Budget → Budget) (h : Gantry) : (s.modBudget f).channel h = s.channel h := rfl
@[simp] theorem State.modBudget_monitor' (f : Budget → Budget) (h : Gantry) : (s.modBudget f).monitor h = s.monitor h := rfl
@[simp] theorem State.modBudget_line' (f : Budget → Budget) (i : LineIx) : (s.modBudget f).line i = s.line i := rfl
@[simp] theorem State.modBudget_heat' (f : Budget → Budget) (k : HeatIx) : (s.modBudget f).heat k = s.heat k := rfl
@[simp] theorem State.modBudget_remnant' (f : Budget → Budget) (j : RemnantIx) : (s.modBudget f).remnant j = s.remnant j := rfl
@[simp] theorem State.modBudget_crane' (f : Budget → Budget) (d : CraneId) : (s.modBudget f).crane d = s.crane d := rfl
@[simp] theorem State.modBudget_order' (f : Budget → Budget) (n : Nat) : (s.modBudget f).order n = s.order n := rfl
@[simp] theorem State.modBudget_settings' (f : Budget → Budget) : (s.modBudget f).settings = s.settings := rfl
@[simp] theorem State.modBudget_layout' (f : Budget → Budget) : (s.modBudget f).layout = s.layout := rfl
@[simp] theorem State.modBudget_notice' (f : Budget → Budget) (q : NoticeClass) : (s.modBudget f).notice q = s.notice q := rfl

@[simp] theorem State.modLine_link (l : LineIx) (f : Line → Line) : (s.modLine l f).link = s.link := rfl
@[simp] theorem State.modLine_receivers (l : LineIx) (f : Line → Line) : (s.modLine l f).receivers = s.receivers := rfl
@[simp] theorem State.modLine_hall (l : LineIx) (f : Line → Line) : (s.modLine l f).hall = s.hall := rfl
@[simp] theorem State.modLine_lines (l : LineIx) (f : Line → Line) : (s.modLine l f).lines = put s.lines l (f (s.line l)) := rfl
@[simp] theorem State.modLine_bayTable (l : LineIx) (f : Line → Line) : (s.modLine l f).bayTable = s.bayTable := rfl
@[simp] theorem State.modLine_channels (l : LineIx) (f : Line → Line) : (s.modLine l f).channels = s.channels := rfl
@[simp] theorem State.modLine_monitors (l : LineIx) (f : Line → Line) : (s.modLine l f).monitors = s.monitors := rfl
@[simp] theorem State.modLine_budget (l : LineIx) (f : Line → Line) : (s.modLine l f).budget = s.budget := rfl
@[simp] theorem State.modLine_composer (l : LineIx) (f : Line → Line) : (s.modLine l f).composer = s.composer := rfl
@[simp] theorem State.modLine_remnants (l : LineIx) (f : Line → Line) : (s.modLine l f).remnants = s.remnants := rfl
@[simp] theorem State.modLine_dispatcher (l : LineIx) (f : Line → Line) : (s.modLine l f).dispatcher = s.dispatcher := rfl
@[simp] theorem State.modLine_cranes (l : LineIx) (f : Line → Line) : (s.modLine l f).cranes = s.cranes := rfl
@[simp] theorem State.modLine_sent (l : LineIx) (f : Line → Line) : (s.modLine l f).sent = s.sent := rfl
@[simp] theorem State.modLine_pending (l : LineIx) (f : Line → Line) : (s.modLine l f).pending = s.pending := rfl
@[simp] theorem State.modLine_bay' (l : LineIx) (f : Line → Line) (b : BayIx) : (s.modLine l f).bay b = s.bay b := rfl
@[simp] theorem State.modLine_channel' (l : LineIx) (f : Line → Line) (h : Gantry) : (s.modLine l f).channel h = s.channel h := rfl
@[simp] theorem State.modLine_monitor' (l : LineIx) (f : Line → Line) (h : Gantry) : (s.modLine l f).monitor h = s.monitor h := rfl
@[simp] theorem State.modLine_booking' (l : LineIx) (f : Line → Line) (h : Gantry) : (s.modLine l f).booking h = s.booking h := rfl
@[simp] theorem State.modLine_heat' (l : LineIx) (f : Line → Line) (k : HeatIx) : (s.modLine l f).heat k = s.heat k := rfl
@[simp] theorem State.modLine_remnant' (l : LineIx) (f : Line → Line) (j : RemnantIx) : (s.modLine l f).remnant j = s.remnant j := rfl
@[simp] theorem State.modLine_crane' (l : LineIx) (f : Line → Line) (d : CraneId) : (s.modLine l f).crane d = s.crane d := rfl
@[simp] theorem State.modLine_order' (l : LineIx) (f : Line → Line) (n : Nat) : (s.modLine l f).order n = s.order n := rfl
@[simp] theorem State.modLine_settings' (l : LineIx) (f : Line → Line) : (s.modLine l f).settings = s.settings := rfl
@[simp] theorem State.modLine_layout' (l : LineIx) (f : Line → Line) : (s.modLine l f).layout = s.layout := rfl
@[simp] theorem State.modLine_notice' (l : LineIx) (f : Line → Line) (q : NoticeClass) : (s.modLine l f).notice q = s.notice q := rfl

@[simp] theorem State.modHall_link (f : Hall → Hall) : (s.modHall f).link = s.link := rfl
@[simp] theorem State.modHall_receivers (f : Hall → Hall) : (s.modHall f).receivers = s.receivers := rfl
@[simp] theorem State.modHall_hall (f : Hall → Hall) : (s.modHall f).hall = f s.hall := rfl
@[simp] theorem State.modHall_lines (f : Hall → Hall) : (s.modHall f).lines = s.lines := rfl
@[simp] theorem State.modHall_bayTable (f : Hall → Hall) : (s.modHall f).bayTable = s.bayTable := rfl
@[simp] theorem State.modHall_channels (f : Hall → Hall) : (s.modHall f).channels = s.channels := rfl
@[simp] theorem State.modHall_monitors (f : Hall → Hall) : (s.modHall f).monitors = s.monitors := rfl
@[simp] theorem State.modHall_budget (f : Hall → Hall) : (s.modHall f).budget = s.budget := rfl
@[simp] theorem State.modHall_composer (f : Hall → Hall) : (s.modHall f).composer = s.composer := rfl
@[simp] theorem State.modHall_remnants (f : Hall → Hall) : (s.modHall f).remnants = s.remnants := rfl
@[simp] theorem State.modHall_dispatcher (f : Hall → Hall) : (s.modHall f).dispatcher = s.dispatcher := rfl
@[simp] theorem State.modHall_cranes (f : Hall → Hall) : (s.modHall f).cranes = s.cranes := rfl
@[simp] theorem State.modHall_sent (f : Hall → Hall) : (s.modHall f).sent = s.sent := rfl
@[simp] theorem State.modHall_pending (f : Hall → Hall) : (s.modHall f).pending = s.pending := rfl
@[simp] theorem State.modHall_bay' (f : Hall → Hall) (b : BayIx) : (s.modHall f).bay b = s.bay b := rfl
@[simp] theorem State.modHall_channel' (f : Hall → Hall) (h : Gantry) : (s.modHall f).channel h = s.channel h := rfl
@[simp] theorem State.modHall_monitor' (f : Hall → Hall) (h : Gantry) : (s.modHall f).monitor h = s.monitor h := rfl
@[simp] theorem State.modHall_booking' (f : Hall → Hall) (h : Gantry) : (s.modHall f).booking h = s.booking h := rfl
@[simp] theorem State.modHall_line' (f : Hall → Hall) (i : LineIx) : (s.modHall f).line i = s.line i := rfl
@[simp] theorem State.modHall_heat' (f : Hall → Hall) (k : HeatIx) : (s.modHall f).heat k = s.heat k := rfl
@[simp] theorem State.modHall_remnant' (f : Hall → Hall) (j : RemnantIx) : (s.modHall f).remnant j = s.remnant j := rfl
@[simp] theorem State.modHall_crane' (f : Hall → Hall) (d : CraneId) : (s.modHall f).crane d = s.crane d := rfl
@[simp] theorem State.modHall_order' (f : Hall → Hall) (n : Nat) : (s.modHall f).order n = s.order n := rfl
@[simp] theorem State.modHall_settings' (f : Hall → Hall) : (s.modHall f).settings = s.settings := rfl
@[simp] theorem State.modHall_layout' (f : Hall → Hall) : (s.modHall f).layout = s.layout := rfl
@[simp] theorem State.modHall_notice' (f : Hall → Hall) (q : NoticeClass) : (s.modHall f).notice q = s.notice q := rfl

@[simp] theorem State.modComposer_link (f : Composer → Composer) : (s.modComposer f).link = s.link := rfl
@[simp] theorem State.modComposer_receivers (f : Composer → Composer) : (s.modComposer f).receivers = s.receivers := rfl
@[simp] theorem State.modComposer_hall (f : Composer → Composer) : (s.modComposer f).hall = s.hall := rfl
@[simp] theorem State.modComposer_lines (f : Composer → Composer) : (s.modComposer f).lines = s.lines := rfl
@[simp] theorem State.modComposer_bayTable (f : Composer → Composer) : (s.modComposer f).bayTable = s.bayTable := rfl
@[simp] theorem State.modComposer_channels (f : Composer → Composer) : (s.modComposer f).channels = s.channels := rfl
@[simp] theorem State.modComposer_monitors (f : Composer → Composer) : (s.modComposer f).monitors = s.monitors := rfl
@[simp] theorem State.modComposer_budget (f : Composer → Composer) : (s.modComposer f).budget = s.budget := rfl
@[simp] theorem State.modComposer_composer (f : Composer → Composer) : (s.modComposer f).composer = f s.composer := rfl
@[simp] theorem State.modComposer_remnants (f : Composer → Composer) : (s.modComposer f).remnants = s.remnants := rfl
@[simp] theorem State.modComposer_dispatcher (f : Composer → Composer) : (s.modComposer f).dispatcher = s.dispatcher := rfl
@[simp] theorem State.modComposer_cranes (f : Composer → Composer) : (s.modComposer f).cranes = s.cranes := rfl
@[simp] theorem State.modComposer_sent (f : Composer → Composer) : (s.modComposer f).sent = s.sent := rfl
@[simp] theorem State.modComposer_pending (f : Composer → Composer) : (s.modComposer f).pending = s.pending := rfl
@[simp] theorem State.modComposer_bay' (f : Composer → Composer) (b : BayIx) : (s.modComposer f).bay b = s.bay b := rfl
@[simp] theorem State.modComposer_channel' (f : Composer → Composer) (h : Gantry) : (s.modComposer f).channel h = s.channel h := rfl
@[simp] theorem State.modComposer_monitor' (f : Composer → Composer) (h : Gantry) : (s.modComposer f).monitor h = s.monitor h := rfl
@[simp] theorem State.modComposer_booking' (f : Composer → Composer) (h : Gantry) : (s.modComposer f).booking h = s.booking h := rfl
@[simp] theorem State.modComposer_line' (f : Composer → Composer) (i : LineIx) : (s.modComposer f).line i = s.line i := rfl
@[simp] theorem State.modComposer_remnant' (f : Composer → Composer) (j : RemnantIx) : (s.modComposer f).remnant j = s.remnant j := rfl
@[simp] theorem State.modComposer_crane' (f : Composer → Composer) (d : CraneId) : (s.modComposer f).crane d = s.crane d := rfl
@[simp] theorem State.modComposer_order' (f : Composer → Composer) (n : Nat) : (s.modComposer f).order n = s.order n := rfl
@[simp] theorem State.modComposer_settings' (f : Composer → Composer) : (s.modComposer f).settings = s.settings := rfl
@[simp] theorem State.modComposer_layout' (f : Composer → Composer) : (s.modComposer f).layout = s.layout := rfl
@[simp] theorem State.modComposer_notice' (f : Composer → Composer) (q : NoticeClass) : (s.modComposer f).notice q = s.notice q := rfl

@[simp] theorem State.modHeat_link (e : HeatIx) (f : Heat → Heat) : (s.modHeat e f).link = s.link := rfl
@[simp] theorem State.modHeat_receivers (e : HeatIx) (f : Heat → Heat) : (s.modHeat e f).receivers = s.receivers := rfl
@[simp] theorem State.modHeat_hall (e : HeatIx) (f : Heat → Heat) : (s.modHeat e f).hall = s.hall := rfl
@[simp] theorem State.modHeat_lines (e : HeatIx) (f : Heat → Heat) : (s.modHeat e f).lines = s.lines := rfl
@[simp] theorem State.modHeat_bayTable (e : HeatIx) (f : Heat → Heat) : (s.modHeat e f).bayTable = s.bayTable := rfl
@[simp] theorem State.modHeat_channels (e : HeatIx) (f : Heat → Heat) : (s.modHeat e f).channels = s.channels := rfl
@[simp] theorem State.modHeat_monitors (e : HeatIx) (f : Heat → Heat) : (s.modHeat e f).monitors = s.monitors := rfl
@[simp] theorem State.modHeat_budget (e : HeatIx) (f : Heat → Heat) : (s.modHeat e f).budget = s.budget := rfl
@[simp] theorem State.modHeat_composer (e : HeatIx) (f : Heat → Heat) : (s.modHeat e f).composer = { s.composer with heats := put s.composer.heats e ((s.heat e).map f) } := rfl
@[simp] theorem State.modHeat_remnants (e : HeatIx) (f : Heat → Heat) : (s.modHeat e f).remnants = s.remnants := rfl
@[simp] theorem State.modHeat_dispatcher (e : HeatIx) (f : Heat → Heat) : (s.modHeat e f).dispatcher = s.dispatcher := rfl
@[simp] theorem State.modHeat_cranes (e : HeatIx) (f : Heat → Heat) : (s.modHeat e f).cranes = s.cranes := rfl
@[simp] theorem State.modHeat_sent (e : HeatIx) (f : Heat → Heat) : (s.modHeat e f).sent = s.sent := rfl
@[simp] theorem State.modHeat_pending (e : HeatIx) (f : Heat → Heat) : (s.modHeat e f).pending = s.pending := rfl
@[simp] theorem State.modHeat_bay' (e : HeatIx) (f : Heat → Heat) (b : BayIx) : (s.modHeat e f).bay b = s.bay b := rfl
@[simp] theorem State.modHeat_channel' (e : HeatIx) (f : Heat → Heat) (h : Gantry) : (s.modHeat e f).channel h = s.channel h := rfl
@[simp] theorem State.modHeat_monitor' (e : HeatIx) (f : Heat → Heat) (h : Gantry) : (s.modHeat e f).monitor h = s.monitor h := rfl
@[simp] theorem State.modHeat_booking' (e : HeatIx) (f : Heat → Heat) (h : Gantry) : (s.modHeat e f).booking h = s.booking h := rfl
@[simp] theorem State.modHeat_line' (e : HeatIx) (f : Heat → Heat) (i : LineIx) : (s.modHeat e f).line i = s.line i := rfl
@[simp] theorem State.modHeat_remnant' (e : HeatIx) (f : Heat → Heat) (j : RemnantIx) : (s.modHeat e f).remnant j = s.remnant j := rfl
@[simp] theorem State.modHeat_crane' (e : HeatIx) (f : Heat → Heat) (d : CraneId) : (s.modHeat e f).crane d = s.crane d := rfl
@[simp] theorem State.modHeat_order' (e : HeatIx) (f : Heat → Heat) (n : Nat) : (s.modHeat e f).order n = s.order n := rfl
@[simp] theorem State.modHeat_settings' (e : HeatIx) (f : Heat → Heat) : (s.modHeat e f).settings = s.settings := rfl
@[simp] theorem State.modHeat_layout' (e : HeatIx) (f : Heat → Heat) : (s.modHeat e f).layout = s.layout := rfl
@[simp] theorem State.modHeat_notice' (e : HeatIx) (f : Heat → Heat) (q : NoticeClass) : (s.modHeat e f).notice q = s.notice q := rfl

@[simp] theorem State.modRemnants_link (f : RemnantTable → RemnantTable) : (s.modRemnants f).link = s.link := rfl
@[simp] theorem State.modRemnants_receivers (f : RemnantTable → RemnantTable) : (s.modRemnants f).receivers = s.receivers := rfl
@[simp] theorem State.modRemnants_hall (f : RemnantTable → RemnantTable) : (s.modRemnants f).hall = s.hall := rfl
@[simp] theorem State.modRemnants_lines (f : RemnantTable → RemnantTable) : (s.modRemnants f).lines = s.lines := rfl
@[simp] theorem State.modRemnants_bayTable (f : RemnantTable → RemnantTable) : (s.modRemnants f).bayTable = s.bayTable := rfl
@[simp] theorem State.modRemnants_channels (f : RemnantTable → RemnantTable) : (s.modRemnants f).channels = s.channels := rfl
@[simp] theorem State.modRemnants_monitors (f : RemnantTable → RemnantTable) : (s.modRemnants f).monitors = s.monitors := rfl
@[simp] theorem State.modRemnants_budget (f : RemnantTable → RemnantTable) : (s.modRemnants f).budget = s.budget := rfl
@[simp] theorem State.modRemnants_composer (f : RemnantTable → RemnantTable) : (s.modRemnants f).composer = s.composer := rfl
@[simp] theorem State.modRemnants_remnants (f : RemnantTable → RemnantTable) : (s.modRemnants f).remnants = f s.remnants := rfl
@[simp] theorem State.modRemnants_dispatcher (f : RemnantTable → RemnantTable) : (s.modRemnants f).dispatcher = s.dispatcher := rfl
@[simp] theorem State.modRemnants_cranes (f : RemnantTable → RemnantTable) : (s.modRemnants f).cranes = s.cranes := rfl
@[simp] theorem State.modRemnants_sent (f : RemnantTable → RemnantTable) : (s.modRemnants f).sent = s.sent := rfl
@[simp] theorem State.modRemnants_pending (f : RemnantTable → RemnantTable) : (s.modRemnants f).pending = s.pending := rfl
@[simp] theorem State.modRemnants_bay' (f : RemnantTable → RemnantTable) (b : BayIx) : (s.modRemnants f).bay b = s.bay b := rfl
@[simp] theorem State.modRemnants_channel' (f : RemnantTable → RemnantTable) (h : Gantry) : (s.modRemnants f).channel h = s.channel h := rfl
@[simp] theorem State.modRemnants_monitor' (f : RemnantTable → RemnantTable) (h : Gantry) : (s.modRemnants f).monitor h = s.monitor h := rfl
@[simp] theorem State.modRemnants_booking' (f : RemnantTable → RemnantTable) (h : Gantry) : (s.modRemnants f).booking h = s.booking h := rfl
@[simp] theorem State.modRemnants_line' (f : RemnantTable → RemnantTable) (i : LineIx) : (s.modRemnants f).line i = s.line i := rfl
@[simp] theorem State.modRemnants_heat' (f : RemnantTable → RemnantTable) (k : HeatIx) : (s.modRemnants f).heat k = s.heat k := rfl
@[simp] theorem State.modRemnants_crane' (f : RemnantTable → RemnantTable) (d : CraneId) : (s.modRemnants f).crane d = s.crane d := rfl
@[simp] theorem State.modRemnants_order' (f : RemnantTable → RemnantTable) (n : Nat) : (s.modRemnants f).order n = s.order n := rfl
@[simp] theorem State.modRemnants_settings' (f : RemnantTable → RemnantTable) : (s.modRemnants f).settings = s.settings := rfl
@[simp] theorem State.modRemnants_layout' (f : RemnantTable → RemnantTable) : (s.modRemnants f).layout = s.layout := rfl
@[simp] theorem State.modRemnants_notice' (f : RemnantTable → RemnantTable) (q : NoticeClass) : (s.modRemnants f).notice q = s.notice q := rfl

@[simp] theorem State.setRemnant_link (r : RemnantIx) (x : Option Remnant) : (s.setRemnant r x).link = s.link := rfl
@[simp] theorem State.setRemnant_receivers (r : RemnantIx) (x : Option Remnant) : (s.setRemnant r x).receivers = s.receivers := rfl
@[simp] theorem State.setRemnant_hall (r : RemnantIx) (x : Option Remnant) : (s.setRemnant r x).hall = s.hall := rfl
@[simp] theorem State.setRemnant_lines (r : RemnantIx) (x : Option Remnant) : (s.setRemnant r x).lines = s.lines := rfl
@[simp] theorem State.setRemnant_bayTable (r : RemnantIx) (x : Option Remnant) : (s.setRemnant r x).bayTable = s.bayTable := rfl
@[simp] theorem State.setRemnant_channels (r : RemnantIx) (x : Option Remnant) : (s.setRemnant r x).channels = s.channels := rfl
@[simp] theorem State.setRemnant_monitors (r : RemnantIx) (x : Option Remnant) : (s.setRemnant r x).monitors = s.monitors := rfl
@[simp] theorem State.setRemnant_budget (r : RemnantIx) (x : Option Remnant) : (s.setRemnant r x).budget = s.budget := rfl
@[simp] theorem State.setRemnant_composer (r : RemnantIx) (x : Option Remnant) : (s.setRemnant r x).composer = s.composer := rfl
@[simp] theorem State.setRemnant_remnants (r : RemnantIx) (x : Option Remnant) : (s.setRemnant r x).remnants = { s.remnants with records := put s.remnants.records r x } := rfl
@[simp] theorem State.setRemnant_dispatcher (r : RemnantIx) (x : Option Remnant) : (s.setRemnant r x).dispatcher = s.dispatcher := rfl
@[simp] theorem State.setRemnant_cranes (r : RemnantIx) (x : Option Remnant) : (s.setRemnant r x).cranes = s.cranes := rfl
@[simp] theorem State.setRemnant_sent (r : RemnantIx) (x : Option Remnant) : (s.setRemnant r x).sent = s.sent := rfl
@[simp] theorem State.setRemnant_pending (r : RemnantIx) (x : Option Remnant) : (s.setRemnant r x).pending = s.pending := rfl
@[simp] theorem State.setRemnant_bay' (r : RemnantIx) (x : Option Remnant) (b : BayIx) : (s.setRemnant r x).bay b = s.bay b := rfl
@[simp] theorem State.setRemnant_channel' (r : RemnantIx) (x : Option Remnant) (h : Gantry) : (s.setRemnant r x).channel h = s.channel h := rfl
@[simp] theorem State.setRemnant_monitor' (r : RemnantIx) (x : Option Remnant) (h : Gantry) : (s.setRemnant r x).monitor h = s.monitor h := rfl
@[simp] theorem State.setRemnant_booking' (r : RemnantIx) (x : Option Remnant) (h : Gantry) : (s.setRemnant r x).booking h = s.booking h := rfl
@[simp] theorem State.setRemnant_line' (r : RemnantIx) (x : Option Remnant) (i : LineIx) : (s.setRemnant r x).line i = s.line i := rfl
@[simp] theorem State.setRemnant_heat' (r : RemnantIx) (x : Option Remnant) (k : HeatIx) : (s.setRemnant r x).heat k = s.heat k := rfl
@[simp] theorem State.setRemnant_crane' (r : RemnantIx) (x : Option Remnant) (d : CraneId) : (s.setRemnant r x).crane d = s.crane d := rfl
@[simp] theorem State.setRemnant_order' (r : RemnantIx) (x : Option Remnant) (n : Nat) : (s.setRemnant r x).order n = s.order n := rfl
@[simp] theorem State.setRemnant_settings' (r : RemnantIx) (x : Option Remnant) : (s.setRemnant r x).settings = s.settings := rfl
@[simp] theorem State.setRemnant_layout' (r : RemnantIx) (x : Option Remnant) : (s.setRemnant r x).layout = s.layout := rfl
@[simp] theorem State.setRemnant_notice' (r : RemnantIx) (x : Option Remnant) (q : NoticeClass) : (s.setRemnant r x).notice q = s.notice q := rfl

@[simp] theorem State.modRemnant_link (r : RemnantIx) (f : Remnant → Remnant) : (s.modRemnant r f).link = s.link := rfl
@[simp] theorem State.modRemnant_receivers (r : RemnantIx) (f : Remnant → Remnant) : (s.modRemnant r f).receivers = s.receivers := rfl
@[simp] theorem State.modRemnant_hall (r : RemnantIx) (f : Remnant → Remnant) : (s.modRemnant r f).hall = s.hall := rfl
@[simp] theorem State.modRemnant_lines (r : RemnantIx) (f : Remnant → Remnant) : (s.modRemnant r f).lines = s.lines := rfl
@[simp] theorem State.modRemnant_bayTable (r : RemnantIx) (f : Remnant → Remnant) : (s.modRemnant r f).bayTable = s.bayTable := rfl
@[simp] theorem State.modRemnant_channels (r : RemnantIx) (f : Remnant → Remnant) : (s.modRemnant r f).channels = s.channels := rfl
@[simp] theorem State.modRemnant_monitors (r : RemnantIx) (f : Remnant → Remnant) : (s.modRemnant r f).monitors = s.monitors := rfl
@[simp] theorem State.modRemnant_budget (r : RemnantIx) (f : Remnant → Remnant) : (s.modRemnant r f).budget = s.budget := rfl
@[simp] theorem State.modRemnant_composer (r : RemnantIx) (f : Remnant → Remnant) : (s.modRemnant r f).composer = s.composer := rfl
@[simp] theorem State.modRemnant_remnants (r : RemnantIx) (f : Remnant → Remnant) : (s.modRemnant r f).remnants = { s.remnants with records := put s.remnants.records r ((s.remnant r).map f) } := rfl
@[simp] theorem State.modRemnant_dispatcher (r : RemnantIx) (f : Remnant → Remnant) : (s.modRemnant r f).dispatcher = s.dispatcher := rfl
@[simp] theorem State.modRemnant_cranes (r : RemnantIx) (f : Remnant → Remnant) : (s.modRemnant r f).cranes = s.cranes := rfl
@[simp] theorem State.modRemnant_sent (r : RemnantIx) (f : Remnant → Remnant) : (s.modRemnant r f).sent = s.sent := rfl
@[simp] theorem State.modRemnant_pending (r : RemnantIx) (f : Remnant → Remnant) : (s.modRemnant r f).pending = s.pending := rfl
@[simp] theorem State.modRemnant_bay' (r : RemnantIx) (f : Remnant → Remnant) (b : BayIx) : (s.modRemnant r f).bay b = s.bay b := rfl
@[simp] theorem State.modRemnant_channel' (r : RemnantIx) (f : Remnant → Remnant) (h : Gantry) : (s.modRemnant r f).channel h = s.channel h := rfl
@[simp] theorem State.modRemnant_monitor' (r : RemnantIx) (f : Remnant → Remnant) (h : Gantry) : (s.modRemnant r f).monitor h = s.monitor h := rfl
@[simp] theorem State.modRemnant_booking' (r : RemnantIx) (f : Remnant → Remnant) (h : Gantry) : (s.modRemnant r f).booking h = s.booking h := rfl
@[simp] theorem State.modRemnant_line' (r : RemnantIx) (f : Remnant → Remnant) (i : LineIx) : (s.modRemnant r f).line i = s.line i := rfl
@[simp] theorem State.modRemnant_heat' (r : RemnantIx) (f : Remnant → Remnant) (k : HeatIx) : (s.modRemnant r f).heat k = s.heat k := rfl
@[simp] theorem State.modRemnant_crane' (r : RemnantIx) (f : Remnant → Remnant) (d : CraneId) : (s.modRemnant r f).crane d = s.crane d := rfl
@[simp] theorem State.modRemnant_order' (r : RemnantIx) (f : Remnant → Remnant) (n : Nat) : (s.modRemnant r f).order n = s.order n := rfl
@[simp] theorem State.modRemnant_settings' (r : RemnantIx) (f : Remnant → Remnant) : (s.modRemnant r f).settings = s.settings := rfl
@[simp] theorem State.modRemnant_layout' (r : RemnantIx) (f : Remnant → Remnant) : (s.modRemnant r f).layout = s.layout := rfl
@[simp] theorem State.modRemnant_notice' (r : RemnantIx) (f : Remnant → Remnant) (q : NoticeClass) : (s.modRemnant r f).notice q = s.notice q := rfl

@[simp] theorem State.modDispatcher_link (f : Dispatcher → Dispatcher) : (s.modDispatcher f).link = s.link := rfl
@[simp] theorem State.modDispatcher_receivers (f : Dispatcher → Dispatcher) : (s.modDispatcher f).receivers = s.receivers := rfl
@[simp] theorem State.modDispatcher_hall (f : Dispatcher → Dispatcher) : (s.modDispatcher f).hall = s.hall := rfl
@[simp] theorem State.modDispatcher_lines (f : Dispatcher → Dispatcher) : (s.modDispatcher f).lines = s.lines := rfl
@[simp] theorem State.modDispatcher_bayTable (f : Dispatcher → Dispatcher) : (s.modDispatcher f).bayTable = s.bayTable := rfl
@[simp] theorem State.modDispatcher_channels (f : Dispatcher → Dispatcher) : (s.modDispatcher f).channels = s.channels := rfl
@[simp] theorem State.modDispatcher_monitors (f : Dispatcher → Dispatcher) : (s.modDispatcher f).monitors = s.monitors := rfl
@[simp] theorem State.modDispatcher_budget (f : Dispatcher → Dispatcher) : (s.modDispatcher f).budget = s.budget := rfl
@[simp] theorem State.modDispatcher_composer (f : Dispatcher → Dispatcher) : (s.modDispatcher f).composer = s.composer := rfl
@[simp] theorem State.modDispatcher_remnants (f : Dispatcher → Dispatcher) : (s.modDispatcher f).remnants = s.remnants := rfl
@[simp] theorem State.modDispatcher_dispatcher (f : Dispatcher → Dispatcher) : (s.modDispatcher f).dispatcher = f s.dispatcher := rfl
@[simp] theorem State.modDispatcher_cranes (f : Dispatcher → Dispatcher) : (s.modDispatcher f).cranes = s.cranes := rfl
@[simp] theorem State.modDispatcher_sent (f : Dispatcher → Dispatcher) : (s.modDispatcher f).sent = s.sent := rfl
@[simp] theorem State.modDispatcher_pending (f : Dispatcher → Dispatcher) : (s.modDispatcher f).pending = s.pending := rfl
@[simp] theorem State.modDispatcher_bay' (f : Dispatcher → Dispatcher) (b : BayIx) : (s.modDispatcher f).bay b = s.bay b := rfl
@[simp] theorem State.modDispatcher_channel' (f : Dispatcher → Dispatcher) (h : Gantry) : (s.modDispatcher f).channel h = s.channel h := rfl
@[simp] theorem State.modDispatcher_monitor' (f : Dispatcher → Dispatcher) (h : Gantry) : (s.modDispatcher f).monitor h = s.monitor h := rfl
@[simp] theorem State.modDispatcher_booking' (f : Dispatcher → Dispatcher) (h : Gantry) : (s.modDispatcher f).booking h = s.booking h := rfl
@[simp] theorem State.modDispatcher_line' (f : Dispatcher → Dispatcher) (i : LineIx) : (s.modDispatcher f).line i = s.line i := rfl
@[simp] theorem State.modDispatcher_heat' (f : Dispatcher → Dispatcher) (k : HeatIx) : (s.modDispatcher f).heat k = s.heat k := rfl
@[simp] theorem State.modDispatcher_remnant' (f : Dispatcher → Dispatcher) (j : RemnantIx) : (s.modDispatcher f).remnant j = s.remnant j := rfl
@[simp] theorem State.modDispatcher_crane' (f : Dispatcher → Dispatcher) (d : CraneId) : (s.modDispatcher f).crane d = s.crane d := rfl
@[simp] theorem State.modDispatcher_layout' (f : Dispatcher → Dispatcher) : (s.modDispatcher f).layout = s.layout := rfl
@[simp] theorem State.modDispatcher_notice' (f : Dispatcher → Dispatcher) (q : NoticeClass) : (s.modDispatcher f).notice q = s.notice q := rfl

@[simp] theorem State.modOrder_link (m : Nat) (f : Order → Order) : (s.modOrder m f).link = s.link := rfl
@[simp] theorem State.modOrder_receivers (m : Nat) (f : Order → Order) : (s.modOrder m f).receivers = s.receivers := rfl
@[simp] theorem State.modOrder_hall (m : Nat) (f : Order → Order) : (s.modOrder m f).hall = s.hall := rfl
@[simp] theorem State.modOrder_lines (m : Nat) (f : Order → Order) : (s.modOrder m f).lines = s.lines := rfl
@[simp] theorem State.modOrder_bayTable (m : Nat) (f : Order → Order) : (s.modOrder m f).bayTable = s.bayTable := rfl
@[simp] theorem State.modOrder_channels (m : Nat) (f : Order → Order) : (s.modOrder m f).channels = s.channels := rfl
@[simp] theorem State.modOrder_monitors (m : Nat) (f : Order → Order) : (s.modOrder m f).monitors = s.monitors := rfl
@[simp] theorem State.modOrder_budget (m : Nat) (f : Order → Order) : (s.modOrder m f).budget = s.budget := rfl
@[simp] theorem State.modOrder_composer (m : Nat) (f : Order → Order) : (s.modOrder m f).composer = s.composer := rfl
@[simp] theorem State.modOrder_remnants (m : Nat) (f : Order → Order) : (s.modOrder m f).remnants = s.remnants := rfl
@[simp] theorem State.modOrder_dispatcher (m : Nat) (f : Order → Order) : (s.modOrder m f).dispatcher = { s.dispatcher with orders := s.dispatcher.orders.map (fun o => if o.number == m then f o else o) } := rfl
@[simp] theorem State.modOrder_cranes (m : Nat) (f : Order → Order) : (s.modOrder m f).cranes = s.cranes := rfl
@[simp] theorem State.modOrder_sent (m : Nat) (f : Order → Order) : (s.modOrder m f).sent = s.sent := rfl
@[simp] theorem State.modOrder_pending (m : Nat) (f : Order → Order) : (s.modOrder m f).pending = s.pending := rfl
@[simp] theorem State.modOrder_bay' (m : Nat) (f : Order → Order) (b : BayIx) : (s.modOrder m f).bay b = s.bay b := rfl
@[simp] theorem State.modOrder_channel' (m : Nat) (f : Order → Order) (h : Gantry) : (s.modOrder m f).channel h = s.channel h := rfl
@[simp] theorem State.modOrder_monitor' (m : Nat) (f : Order → Order) (h : Gantry) : (s.modOrder m f).monitor h = s.monitor h := rfl
@[simp] theorem State.modOrder_booking' (m : Nat) (f : Order → Order) (h : Gantry) : (s.modOrder m f).booking h = s.booking h := rfl
@[simp] theorem State.modOrder_line' (m : Nat) (f : Order → Order) (i : LineIx) : (s.modOrder m f).line i = s.line i := rfl
@[simp] theorem State.modOrder_heat' (m : Nat) (f : Order → Order) (k : HeatIx) : (s.modOrder m f).heat k = s.heat k := rfl
@[simp] theorem State.modOrder_remnant' (m : Nat) (f : Order → Order) (j : RemnantIx) : (s.modOrder m f).remnant j = s.remnant j := rfl
@[simp] theorem State.modOrder_crane' (m : Nat) (f : Order → Order) (d : CraneId) : (s.modOrder m f).crane d = s.crane d := rfl
@[simp] theorem State.modOrder_layout' (m : Nat) (f : Order → Order) : (s.modOrder m f).layout = s.layout := rfl
@[simp] theorem State.modOrder_notice' (m : Nat) (f : Order → Order) (q : NoticeClass) : (s.modOrder m f).notice q = s.notice q := rfl

@[simp] theorem State.modLink_link (f : Link → Link) : (s.modLink f).link = f s.link := rfl
@[simp] theorem State.modLink_receivers (f : Link → Link) : (s.modLink f).receivers = s.receivers := rfl
@[simp] theorem State.modLink_hall (f : Link → Link) : (s.modLink f).hall = s.hall := rfl
@[simp] theorem State.modLink_lines (f : Link → Link) : (s.modLink f).lines = s.lines := rfl
@[simp] theorem State.modLink_bayTable (f : Link → Link) : (s.modLink f).bayTable = s.bayTable := rfl
@[simp] theorem State.modLink_channels (f : Link → Link) : (s.modLink f).channels = s.channels := rfl
@[simp] theorem State.modLink_monitors (f : Link → Link) : (s.modLink f).monitors = s.monitors := rfl
@[simp] theorem State.modLink_budget (f : Link → Link) : (s.modLink f).budget = s.budget := rfl
@[simp] theorem State.modLink_composer (f : Link → Link) : (s.modLink f).composer = s.composer := rfl
@[simp] theorem State.modLink_remnants (f : Link → Link) : (s.modLink f).remnants = s.remnants := rfl
@[simp] theorem State.modLink_dispatcher (f : Link → Link) : (s.modLink f).dispatcher = s.dispatcher := rfl
@[simp] theorem State.modLink_cranes (f : Link → Link) : (s.modLink f).cranes = s.cranes := rfl
@[simp] theorem State.modLink_sent (f : Link → Link) : (s.modLink f).sent = s.sent := rfl
@[simp] theorem State.modLink_pending (f : Link → Link) : (s.modLink f).pending = s.pending := rfl
@[simp] theorem State.modLink_bay' (f : Link → Link) (b : BayIx) : (s.modLink f).bay b = s.bay b := rfl
@[simp] theorem State.modLink_channel' (f : Link → Link) (h : Gantry) : (s.modLink f).channel h = s.channel h := rfl
@[simp] theorem State.modLink_monitor' (f : Link → Link) (h : Gantry) : (s.modLink f).monitor h = s.monitor h := rfl
@[simp] theorem State.modLink_booking' (f : Link → Link) (h : Gantry) : (s.modLink f).booking h = s.booking h := rfl
@[simp] theorem State.modLink_line' (f : Link → Link) (i : LineIx) : (s.modLink f).line i = s.line i := rfl
@[simp] theorem State.modLink_heat' (f : Link → Link) (k : HeatIx) : (s.modLink f).heat k = s.heat k := rfl
@[simp] theorem State.modLink_remnant' (f : Link → Link) (j : RemnantIx) : (s.modLink f).remnant j = s.remnant j := rfl
@[simp] theorem State.modLink_crane' (f : Link → Link) (d : CraneId) : (s.modLink f).crane d = s.crane d := rfl
@[simp] theorem State.modLink_order' (f : Link → Link) (n : Nat) : (s.modLink f).order n = s.order n := rfl
@[simp] theorem State.modLink_settings' (f : Link → Link) : (s.modLink f).settings = s.settings := rfl
@[simp] theorem State.modLink_layout' (f : Link → Link) : (s.modLink f).layout = s.layout := rfl

@[simp] theorem State.modStats_link (f : LinkStats → LinkStats) : (s.modStats f).link = { s.link with stats := f s.link.stats } := rfl
@[simp] theorem State.modStats_receivers (f : LinkStats → LinkStats) : (s.modStats f).receivers = s.receivers := rfl
@[simp] theorem State.modStats_hall (f : LinkStats → LinkStats) : (s.modStats f).hall = s.hall := rfl
@[simp] theorem State.modStats_lines (f : LinkStats → LinkStats) : (s.modStats f).lines = s.lines := rfl
@[simp] theorem State.modStats_bayTable (f : LinkStats → LinkStats) : (s.modStats f).bayTable = s.bayTable := rfl
@[simp] theorem State.modStats_channels (f : LinkStats → LinkStats) : (s.modStats f).channels = s.channels := rfl
@[simp] theorem State.modStats_monitors (f : LinkStats → LinkStats) : (s.modStats f).monitors = s.monitors := rfl
@[simp] theorem State.modStats_budget (f : LinkStats → LinkStats) : (s.modStats f).budget = s.budget := rfl
@[simp] theorem State.modStats_composer (f : LinkStats → LinkStats) : (s.modStats f).composer = s.composer := rfl
@[simp] theorem State.modStats_remnants (f : LinkStats → LinkStats) : (s.modStats f).remnants = s.remnants := rfl
@[simp] theorem State.modStats_dispatcher (f : LinkStats → LinkStats) : (s.modStats f).dispatcher = s.dispatcher := rfl
@[simp] theorem State.modStats_cranes (f : LinkStats → LinkStats) : (s.modStats f).cranes = s.cranes := rfl
@[simp] theorem State.modStats_sent (f : LinkStats → LinkStats) : (s.modStats f).sent = s.sent := rfl
@[simp] theorem State.modStats_pending (f : LinkStats → LinkStats) : (s.modStats f).pending = s.pending := rfl
@[simp] theorem State.modStats_bay' (f : LinkStats → LinkStats) (b : BayIx) : (s.modStats f).bay b = s.bay b := rfl
@[simp] theorem State.modStats_channel' (f : LinkStats → LinkStats) (h : Gantry) : (s.modStats f).channel h = s.channel h := rfl
@[simp] theorem State.modStats_monitor' (f : LinkStats → LinkStats) (h : Gantry) : (s.modStats f).monitor h = s.monitor h := rfl
@[simp] theorem State.modStats_booking' (f : LinkStats → LinkStats) (h : Gantry) : (s.modStats f).booking h = s.booking h := rfl
@[simp] theorem State.modStats_line' (f : LinkStats → LinkStats) (i : LineIx) : (s.modStats f).line i = s.line i := rfl
@[simp] theorem State.modStats_heat' (f : LinkStats → LinkStats) (k : HeatIx) : (s.modStats f).heat k = s.heat k := rfl
@[simp] theorem State.modStats_remnant' (f : LinkStats → LinkStats) (j : RemnantIx) : (s.modStats f).remnant j = s.remnant j := rfl
@[simp] theorem State.modStats_crane' (f : LinkStats → LinkStats) (d : CraneId) : (s.modStats f).crane d = s.crane d := rfl
@[simp] theorem State.modStats_order' (f : LinkStats → LinkStats) (n : Nat) : (s.modStats f).order n = s.order n := rfl
@[simp] theorem State.modStats_settings' (f : LinkStats → LinkStats) : (s.modStats f).settings = s.settings := rfl
@[simp] theorem State.modStats_layout' (f : LinkStats → LinkStats) : (s.modStats f).layout = s.layout := rfl

@[simp] theorem State.modCrane_link (c : CraneId) (f : Crane → Crane) : (s.modCrane c f).link = s.link := rfl
@[simp] theorem State.modCrane_receivers (c : CraneId) (f : Crane → Crane) : (s.modCrane c f).receivers = s.receivers := rfl
@[simp] theorem State.modCrane_hall (c : CraneId) (f : Crane → Crane) : (s.modCrane c f).hall = s.hall := rfl
@[simp] theorem State.modCrane_lines (c : CraneId) (f : Crane → Crane) : (s.modCrane c f).lines = s.lines := rfl
@[simp] theorem State.modCrane_bayTable (c : CraneId) (f : Crane → Crane) : (s.modCrane c f).bayTable = s.bayTable := rfl
@[simp] theorem State.modCrane_channels (c : CraneId) (f : Crane → Crane) : (s.modCrane c f).channels = s.channels := rfl
@[simp] theorem State.modCrane_monitors (c : CraneId) (f : Crane → Crane) : (s.modCrane c f).monitors = s.monitors := rfl
@[simp] theorem State.modCrane_budget (c : CraneId) (f : Crane → Crane) : (s.modCrane c f).budget = s.budget := rfl
@[simp] theorem State.modCrane_composer (c : CraneId) (f : Crane → Crane) : (s.modCrane c f).composer = s.composer := rfl
@[simp] theorem State.modCrane_remnants (c : CraneId) (f : Crane → Crane) : (s.modCrane c f).remnants = s.remnants := rfl
@[simp] theorem State.modCrane_dispatcher (c : CraneId) (f : Crane → Crane) : (s.modCrane c f).dispatcher = s.dispatcher := rfl
@[simp] theorem State.modCrane_cranes (c : CraneId) (f : Crane → Crane) : (s.modCrane c f).cranes = s.cranes.put c (f (s.crane c)) := rfl
@[simp] theorem State.modCrane_sent (c : CraneId) (f : Crane → Crane) : (s.modCrane c f).sent = s.sent := rfl
@[simp] theorem State.modCrane_pending (c : CraneId) (f : Crane → Crane) : (s.modCrane c f).pending = s.pending := rfl
@[simp] theorem State.modCrane_bay' (c : CraneId) (f : Crane → Crane) (b : BayIx) : (s.modCrane c f).bay b = s.bay b := rfl
@[simp] theorem State.modCrane_channel' (c : CraneId) (f : Crane → Crane) (h : Gantry) : (s.modCrane c f).channel h = s.channel h := rfl
@[simp] theorem State.modCrane_monitor' (c : CraneId) (f : Crane → Crane) (h : Gantry) : (s.modCrane c f).monitor h = s.monitor h := rfl
@[simp] theorem State.modCrane_booking' (c : CraneId) (f : Crane → Crane) (h : Gantry) : (s.modCrane c f).booking h = s.booking h := rfl
@[simp] theorem State.modCrane_line' (c : CraneId) (f : Crane → Crane) (i : LineIx) : (s.modCrane c f).line i = s.line i := rfl
@[simp] theorem State.modCrane_heat' (c : CraneId) (f : Crane → Crane) (k : HeatIx) : (s.modCrane c f).heat k = s.heat k := rfl
@[simp] theorem State.modCrane_remnant' (c : CraneId) (f : Crane → Crane) (j : RemnantIx) : (s.modCrane c f).remnant j = s.remnant j := rfl
@[simp] theorem State.modCrane_order' (c : CraneId) (f : Crane → Crane) (n : Nat) : (s.modCrane c f).order n = s.order n := rfl
@[simp] theorem State.modCrane_settings' (c : CraneId) (f : Crane → Crane) : (s.modCrane c f).settings = s.settings := rfl
@[simp] theorem State.modCrane_layout' (c : CraneId) (f : Crane → Crane) : (s.modCrane c f).layout = s.layout := rfl
@[simp] theorem State.modCrane_notice' (c : CraneId) (f : Crane → Crane) (q : NoticeClass) : (s.modCrane c f).notice q = s.notice q := rfl

@[simp] theorem State.setReceiver_link (p : Port) (x : Receiver) : (s.setReceiver p x).link = s.link := rfl
@[simp] theorem State.setReceiver_receivers (p : Port) (x : Receiver) : (s.setReceiver p x).receivers = s.receivers.set p x := rfl
@[simp] theorem State.setReceiver_hall (p : Port) (x : Receiver) : (s.setReceiver p x).hall = s.hall := rfl
@[simp] theorem State.setReceiver_lines (p : Port) (x : Receiver) : (s.setReceiver p x).lines = s.lines := rfl
@[simp] theorem State.setReceiver_bayTable (p : Port) (x : Receiver) : (s.setReceiver p x).bayTable = s.bayTable := rfl
@[simp] theorem State.setReceiver_channels (p : Port) (x : Receiver) : (s.setReceiver p x).channels = s.channels := rfl
@[simp] theorem State.setReceiver_monitors (p : Port) (x : Receiver) : (s.setReceiver p x).monitors = s.monitors := rfl
@[simp] theorem State.setReceiver_budget (p : Port) (x : Receiver) : (s.setReceiver p x).budget = s.budget := rfl
@[simp] theorem State.setReceiver_composer (p : Port) (x : Receiver) : (s.setReceiver p x).composer = s.composer := rfl
@[simp] theorem State.setReceiver_remnants (p : Port) (x : Receiver) : (s.setReceiver p x).remnants = s.remnants := rfl
@[simp] theorem State.setReceiver_dispatcher (p : Port) (x : Receiver) : (s.setReceiver p x).dispatcher = s.dispatcher := rfl
@[simp] theorem State.setReceiver_cranes (p : Port) (x : Receiver) : (s.setReceiver p x).cranes = s.cranes := rfl
@[simp] theorem State.setReceiver_sent (p : Port) (x : Receiver) : (s.setReceiver p x).sent = s.sent := rfl
@[simp] theorem State.setReceiver_pending (p : Port) (x : Receiver) : (s.setReceiver p x).pending = s.pending := rfl
@[simp] theorem State.setReceiver_bay' (p : Port) (x : Receiver) (b : BayIx) : (s.setReceiver p x).bay b = s.bay b := rfl
@[simp] theorem State.setReceiver_channel' (p : Port) (x : Receiver) (h : Gantry) : (s.setReceiver p x).channel h = s.channel h := rfl
@[simp] theorem State.setReceiver_monitor' (p : Port) (x : Receiver) (h : Gantry) : (s.setReceiver p x).monitor h = s.monitor h := rfl
@[simp] theorem State.setReceiver_booking' (p : Port) (x : Receiver) (h : Gantry) : (s.setReceiver p x).booking h = s.booking h := rfl
@[simp] theorem State.setReceiver_line' (p : Port) (x : Receiver) (i : LineIx) : (s.setReceiver p x).line i = s.line i := rfl
@[simp] theorem State.setReceiver_heat' (p : Port) (x : Receiver) (k : HeatIx) : (s.setReceiver p x).heat k = s.heat k := rfl
@[simp] theorem State.setReceiver_remnant' (p : Port) (x : Receiver) (j : RemnantIx) : (s.setReceiver p x).remnant j = s.remnant j := rfl
@[simp] theorem State.setReceiver_crane' (p : Port) (x : Receiver) (d : CraneId) : (s.setReceiver p x).crane d = s.crane d := rfl
@[simp] theorem State.setReceiver_order' (p : Port) (x : Receiver) (n : Nat) : (s.setReceiver p x).order n = s.order n := rfl
@[simp] theorem State.setReceiver_settings' (p : Port) (x : Receiver) : (s.setReceiver p x).settings = s.settings := rfl
@[simp] theorem State.setReceiver_layout' (p : Port) (x : Receiver) : (s.setReceiver p x).layout = s.layout := rfl
@[simp] theorem State.setReceiver_notice' (p : Port) (x : Receiver) (q : NoticeClass) : (s.setReceiver p x).notice q = s.notice q := rfl

@[simp] theorem State.emit_link (m : Sent) : (s.emit m).link = s.link := rfl
@[simp] theorem State.emit_receivers (m : Sent) : (s.emit m).receivers = s.receivers := rfl
@[simp] theorem State.emit_hall (m : Sent) : (s.emit m).hall = s.hall := rfl
@[simp] theorem State.emit_lines (m : Sent) : (s.emit m).lines = s.lines := rfl
@[simp] theorem State.emit_bayTable (m : Sent) : (s.emit m).bayTable = s.bayTable := rfl
@[simp] theorem State.emit_channels (m : Sent) : (s.emit m).channels = s.channels := rfl
@[simp] theorem State.emit_monitors (m : Sent) : (s.emit m).monitors = s.monitors := rfl
@[simp] theorem State.emit_budget (m : Sent) : (s.emit m).budget = s.budget := rfl
@[simp] theorem State.emit_composer (m : Sent) : (s.emit m).composer = s.composer := rfl
@[simp] theorem State.emit_remnants (m : Sent) : (s.emit m).remnants = s.remnants := rfl
@[simp] theorem State.emit_dispatcher (m : Sent) : (s.emit m).dispatcher = s.dispatcher := rfl
@[simp] theorem State.emit_cranes (m : Sent) : (s.emit m).cranes = s.cranes := rfl
@[simp] theorem State.emit_sent (m : Sent) : (s.emit m).sent = s.sent ++ [m] := rfl
@[simp] theorem State.emit_pending (m : Sent) : (s.emit m).pending = s.pending := rfl
@[simp] theorem State.emit_bay' (m : Sent) (b : BayIx) : (s.emit m).bay b = s.bay b := rfl
@[simp] theorem State.emit_channel' (m : Sent) (h : Gantry) : (s.emit m).channel h = s.channel h := rfl
@[simp] theorem State.emit_monitor' (m : Sent) (h : Gantry) : (s.emit m).monitor h = s.monitor h := rfl
@[simp] theorem State.emit_booking' (m : Sent) (h : Gantry) : (s.emit m).booking h = s.booking h := rfl
@[simp] theorem State.emit_line' (m : Sent) (i : LineIx) : (s.emit m).line i = s.line i := rfl
@[simp] theorem State.emit_heat' (m : Sent) (k : HeatIx) : (s.emit m).heat k = s.heat k := rfl
@[simp] theorem State.emit_remnant' (m : Sent) (j : RemnantIx) : (s.emit m).remnant j = s.remnant j := rfl
@[simp] theorem State.emit_crane' (m : Sent) (d : CraneId) : (s.emit m).crane d = s.crane d := rfl
@[simp] theorem State.emit_order' (m : Sent) (n : Nat) : (s.emit m).order n = s.order n := rfl
@[simp] theorem State.emit_settings' (m : Sent) : (s.emit m).settings = s.settings := rfl
@[simp] theorem State.emit_layout' (m : Sent) : (s.emit m).layout = s.layout := rfl
@[simp] theorem State.emit_notice' (m : Sent) (q : NoticeClass) : (s.emit m).notice q = s.notice q := rfl

@[simp] theorem State.tellGantry_link (g : Gantry) (m : GantryMessage) : (s.tellGantry g m).link = s.link := rfl
@[simp] theorem State.tellGantry_receivers (g : Gantry) (m : GantryMessage) : (s.tellGantry g m).receivers = s.receivers := rfl
@[simp] theorem State.tellGantry_hall (g : Gantry) (m : GantryMessage) : (s.tellGantry g m).hall = s.hall := rfl
@[simp] theorem State.tellGantry_lines (g : Gantry) (m : GantryMessage) : (s.tellGantry g m).lines = s.lines := rfl
@[simp] theorem State.tellGantry_bayTable (g : Gantry) (m : GantryMessage) : (s.tellGantry g m).bayTable = s.bayTable := rfl
@[simp] theorem State.tellGantry_channels (g : Gantry) (m : GantryMessage) : (s.tellGantry g m).channels = s.channels := rfl
@[simp] theorem State.tellGantry_monitors (g : Gantry) (m : GantryMessage) : (s.tellGantry g m).monitors = s.monitors := rfl
@[simp] theorem State.tellGantry_budget (g : Gantry) (m : GantryMessage) : (s.tellGantry g m).budget = s.budget := rfl
@[simp] theorem State.tellGantry_composer (g : Gantry) (m : GantryMessage) : (s.tellGantry g m).composer = s.composer := rfl
@[simp] theorem State.tellGantry_remnants (g : Gantry) (m : GantryMessage) : (s.tellGantry g m).remnants = s.remnants := rfl
@[simp] theorem State.tellGantry_dispatcher (g : Gantry) (m : GantryMessage) : (s.tellGantry g m).dispatcher = s.dispatcher := rfl
@[simp] theorem State.tellGantry_cranes (g : Gantry) (m : GantryMessage) : (s.tellGantry g m).cranes = s.cranes := rfl
@[simp] theorem State.tellGantry_sent (g : Gantry) (m : GantryMessage) : (s.tellGantry g m).sent = s.sent ++ [.gantry g m] := rfl
@[simp] theorem State.tellGantry_pending (g : Gantry) (m : GantryMessage) : (s.tellGantry g m).pending = s.pending := rfl
@[simp] theorem State.tellGantry_bay' (g : Gantry) (m : GantryMessage) (b : BayIx) : (s.tellGantry g m).bay b = s.bay b := rfl
@[simp] theorem State.tellGantry_channel' (g : Gantry) (m : GantryMessage) (h : Gantry) : (s.tellGantry g m).channel h = s.channel h := rfl
@[simp] theorem State.tellGantry_monitor' (g : Gantry) (m : GantryMessage) (h : Gantry) : (s.tellGantry g m).monitor h = s.monitor h := rfl
@[simp] theorem State.tellGantry_booking' (g : Gantry) (m : GantryMessage) (h : Gantry) : (s.tellGantry g m).booking h = s.booking h := rfl
@[simp] theorem State.tellGantry_line' (g : Gantry) (m : GantryMessage) (i : LineIx) : (s.tellGantry g m).line i = s.line i := rfl
@[simp] theorem State.tellGantry_heat' (g : Gantry) (m : GantryMessage) (k : HeatIx) : (s.tellGantry g m).heat k = s.heat k := rfl
@[simp] theorem State.tellGantry_remnant' (g : Gantry) (m : GantryMessage) (j : RemnantIx) : (s.tellGantry g m).remnant j = s.remnant j := rfl
@[simp] theorem State.tellGantry_crane' (g : Gantry) (m : GantryMessage) (d : CraneId) : (s.tellGantry g m).crane d = s.crane d := rfl
@[simp] theorem State.tellGantry_order' (g : Gantry) (m : GantryMessage) (n : Nat) : (s.tellGantry g m).order n = s.order n := rfl
@[simp] theorem State.tellGantry_settings' (g : Gantry) (m : GantryMessage) : (s.tellGantry g m).settings = s.settings := rfl
@[simp] theorem State.tellGantry_layout' (g : Gantry) (m : GantryMessage) : (s.tellGantry g m).layout = s.layout := rfl
@[simp] theorem State.tellGantry_notice' (g : Gantry) (m : GantryMessage) (q : NoticeClass) : (s.tellGantry g m).notice q = s.notice q := rfl

@[simp] theorem State.tellCrane_link (c : CraneId) (m : CraneMessage) : (s.tellCrane c m).link = s.link := rfl
@[simp] theorem State.tellCrane_receivers (c : CraneId) (m : CraneMessage) : (s.tellCrane c m).receivers = s.receivers := rfl
@[simp] theorem State.tellCrane_hall (c : CraneId) (m : CraneMessage) : (s.tellCrane c m).hall = s.hall := rfl
@[simp] theorem State.tellCrane_lines (c : CraneId) (m : CraneMessage) : (s.tellCrane c m).lines = s.lines := rfl
@[simp] theorem State.tellCrane_bayTable (c : CraneId) (m : CraneMessage) : (s.tellCrane c m).bayTable = s.bayTable := rfl
@[simp] theorem State.tellCrane_channels (c : CraneId) (m : CraneMessage) : (s.tellCrane c m).channels = s.channels := rfl
@[simp] theorem State.tellCrane_monitors (c : CraneId) (m : CraneMessage) : (s.tellCrane c m).monitors = s.monitors := rfl
@[simp] theorem State.tellCrane_budget (c : CraneId) (m : CraneMessage) : (s.tellCrane c m).budget = s.budget := rfl
@[simp] theorem State.tellCrane_composer (c : CraneId) (m : CraneMessage) : (s.tellCrane c m).composer = s.composer := rfl
@[simp] theorem State.tellCrane_remnants (c : CraneId) (m : CraneMessage) : (s.tellCrane c m).remnants = s.remnants := rfl
@[simp] theorem State.tellCrane_dispatcher (c : CraneId) (m : CraneMessage) : (s.tellCrane c m).dispatcher = s.dispatcher := rfl
@[simp] theorem State.tellCrane_cranes (c : CraneId) (m : CraneMessage) : (s.tellCrane c m).cranes = s.cranes := rfl
@[simp] theorem State.tellCrane_sent (c : CraneId) (m : CraneMessage) : (s.tellCrane c m).sent = s.sent ++ [.crane c m] := rfl
@[simp] theorem State.tellCrane_pending (c : CraneId) (m : CraneMessage) : (s.tellCrane c m).pending = s.pending := rfl
@[simp] theorem State.tellCrane_bay' (c : CraneId) (m : CraneMessage) (b : BayIx) : (s.tellCrane c m).bay b = s.bay b := rfl
@[simp] theorem State.tellCrane_channel' (c : CraneId) (m : CraneMessage) (h : Gantry) : (s.tellCrane c m).channel h = s.channel h := rfl
@[simp] theorem State.tellCrane_monitor' (c : CraneId) (m : CraneMessage) (h : Gantry) : (s.tellCrane c m).monitor h = s.monitor h := rfl
@[simp] theorem State.tellCrane_booking' (c : CraneId) (m : CraneMessage) (h : Gantry) : (s.tellCrane c m).booking h = s.booking h := rfl
@[simp] theorem State.tellCrane_line' (c : CraneId) (m : CraneMessage) (i : LineIx) : (s.tellCrane c m).line i = s.line i := rfl
@[simp] theorem State.tellCrane_heat' (c : CraneId) (m : CraneMessage) (k : HeatIx) : (s.tellCrane c m).heat k = s.heat k := rfl
@[simp] theorem State.tellCrane_remnant' (c : CraneId) (m : CraneMessage) (j : RemnantIx) : (s.tellCrane c m).remnant j = s.remnant j := rfl
@[simp] theorem State.tellCrane_crane' (c : CraneId) (m : CraneMessage) (d : CraneId) : (s.tellCrane c m).crane d = s.crane d := rfl
@[simp] theorem State.tellCrane_order' (c : CraneId) (m : CraneMessage) (n : Nat) : (s.tellCrane c m).order n = s.order n := rfl
@[simp] theorem State.tellCrane_settings' (c : CraneId) (m : CraneMessage) : (s.tellCrane c m).settings = s.settings := rfl
@[simp] theorem State.tellCrane_layout' (c : CraneId) (m : CraneMessage) : (s.tellCrane c m).layout = s.layout := rfl
@[simp] theorem State.tellCrane_notice' (c : CraneId) (m : CraneMessage) (q : NoticeClass) : (s.tellCrane c m).notice q = s.notice q := rfl

@[simp] theorem State.modNotice_link (k : NoticeClass) (f : Notice → Notice) : (s.modNotice k f).link = { s.link with notices := put s.link.notices k.index (f (s.notice k)) } := rfl
@[simp] theorem State.modNotice_receivers (k : NoticeClass) (f : Notice → Notice) : (s.modNotice k f).receivers = s.receivers := rfl
@[simp] theorem State.modNotice_hall (k : NoticeClass) (f : Notice → Notice) : (s.modNotice k f).hall = s.hall := rfl
@[simp] theorem State.modNotice_lines (k : NoticeClass) (f : Notice → Notice) : (s.modNotice k f).lines = s.lines := rfl
@[simp] theorem State.modNotice_bayTable (k : NoticeClass) (f : Notice → Notice) : (s.modNotice k f).bayTable = s.bayTable := rfl
@[simp] theorem State.modNotice_channels (k : NoticeClass) (f : Notice → Notice) : (s.modNotice k f).channels = s.channels := rfl
@[simp] theorem State.modNotice_monitors (k : NoticeClass) (f : Notice → Notice) : (s.modNotice k f).monitors = s.monitors := rfl
@[simp] theorem State.modNotice_budget (k : NoticeClass) (f : Notice → Notice) : (s.modNotice k f).budget = s.budget := rfl
@[simp] theorem State.modNotice_composer (k : NoticeClass) (f : Notice → Notice) : (s.modNotice k f).composer = s.composer := rfl
@[simp] theorem State.modNotice_remnants (k : NoticeClass) (f : Notice → Notice) : (s.modNotice k f).remnants = s.remnants := rfl
@[simp] theorem State.modNotice_dispatcher (k : NoticeClass) (f : Notice → Notice) : (s.modNotice k f).dispatcher = s.dispatcher := rfl
@[simp] theorem State.modNotice_cranes (k : NoticeClass) (f : Notice → Notice) : (s.modNotice k f).cranes = s.cranes := rfl
@[simp] theorem State.modNotice_sent (k : NoticeClass) (f : Notice → Notice) : (s.modNotice k f).sent = s.sent := rfl
@[simp] theorem State.modNotice_pending (k : NoticeClass) (f : Notice → Notice) : (s.modNotice k f).pending = s.pending := rfl
@[simp] theorem State.modNotice_bay' (k : NoticeClass) (f : Notice → Notice) (b : BayIx) : (s.modNotice k f).bay b = s.bay b := rfl
@[simp] theorem State.modNotice_channel' (k : NoticeClass) (f : Notice → Notice) (h : Gantry) : (s.modNotice k f).channel h = s.channel h := rfl
@[simp] theorem State.modNotice_monitor' (k : NoticeClass) (f : Notice → Notice) (h : Gantry) : (s.modNotice k f).monitor h = s.monitor h := rfl
@[simp] theorem State.modNotice_booking' (k : NoticeClass) (f : Notice → Notice) (h : Gantry) : (s.modNotice k f).booking h = s.booking h := rfl
@[simp] theorem State.modNotice_line' (k : NoticeClass) (f : Notice → Notice) (i : LineIx) : (s.modNotice k f).line i = s.line i := rfl
@[simp] theorem State.modNotice_heat' (k : NoticeClass) (f : Notice → Notice) (z : HeatIx) : (s.modNotice k f).heat z = s.heat z := rfl
@[simp] theorem State.modNotice_remnant' (k : NoticeClass) (f : Notice → Notice) (j : RemnantIx) : (s.modNotice k f).remnant j = s.remnant j := rfl
@[simp] theorem State.modNotice_crane' (k : NoticeClass) (f : Notice → Notice) (d : CraneId) : (s.modNotice k f).crane d = s.crane d := rfl
@[simp] theorem State.modNotice_order' (k : NoticeClass) (f : Notice → Notice) (n : Nat) : (s.modNotice k f).order n = s.order n := rfl
@[simp] theorem State.modNotice_settings' (k : NoticeClass) (f : Notice → Notice) : (s.modNotice k f).settings = s.settings := rfl
@[simp] theorem State.modNotice_layout' (k : NoticeClass) (f : Notice → Notice) : (s.modNotice k f).layout = s.layout := rfl

@[simp] theorem State.mark_link (k : NoticeClass) : (s.mark k).link = { s.link with notices := put s.link.notices k.index { s.notice k with pending := true, count := bump8 (s.notice k).count } } := rfl
@[simp] theorem State.mark_receivers (k : NoticeClass) : (s.mark k).receivers = s.receivers := rfl
@[simp] theorem State.mark_hall (k : NoticeClass) : (s.mark k).hall = s.hall := rfl
@[simp] theorem State.mark_lines (k : NoticeClass) : (s.mark k).lines = s.lines := rfl
@[simp] theorem State.mark_bayTable (k : NoticeClass) : (s.mark k).bayTable = s.bayTable := rfl
@[simp] theorem State.mark_channels (k : NoticeClass) : (s.mark k).channels = s.channels := rfl
@[simp] theorem State.mark_monitors (k : NoticeClass) : (s.mark k).monitors = s.monitors := rfl
@[simp] theorem State.mark_budget (k : NoticeClass) : (s.mark k).budget = s.budget := rfl
@[simp] theorem State.mark_composer (k : NoticeClass) : (s.mark k).composer = s.composer := rfl
@[simp] theorem State.mark_remnants (k : NoticeClass) : (s.mark k).remnants = s.remnants := rfl
@[simp] theorem State.mark_dispatcher (k : NoticeClass) : (s.mark k).dispatcher = s.dispatcher := rfl
@[simp] theorem State.mark_cranes (k : NoticeClass) : (s.mark k).cranes = s.cranes := rfl
@[simp] theorem State.mark_sent (k : NoticeClass) : (s.mark k).sent = s.sent := rfl
@[simp] theorem State.mark_pending (k : NoticeClass) : (s.mark k).pending = s.pending := rfl
@[simp] theorem State.mark_bay' (k : NoticeClass) (b : BayIx) : (s.mark k).bay b = s.bay b := rfl
@[simp] theorem State.mark_channel' (k : NoticeClass) (h : Gantry) : (s.mark k).channel h = s.channel h := rfl
@[simp] theorem State.mark_monitor' (k : NoticeClass) (h : Gantry) : (s.mark k).monitor h = s.monitor h := rfl
@[simp] theorem State.mark_booking' (k : NoticeClass) (h : Gantry) : (s.mark k).booking h = s.booking h := rfl
@[simp] theorem State.mark_line' (k : NoticeClass) (i : LineIx) : (s.mark k).line i = s.line i := rfl
@[simp] theorem State.mark_heat' (k : NoticeClass) (z : HeatIx) : (s.mark k).heat z = s.heat z := rfl
@[simp] theorem State.mark_remnant' (k : NoticeClass) (j : RemnantIx) : (s.mark k).remnant j = s.remnant j := rfl
@[simp] theorem State.mark_crane' (k : NoticeClass) (d : CraneId) : (s.mark k).crane d = s.crane d := rfl
@[simp] theorem State.mark_order' (k : NoticeClass) (n : Nat) : (s.mark k).order n = s.order n := rfl
@[simp] theorem State.mark_settings' (k : NoticeClass) : (s.mark k).settings = s.settings := rfl
@[simp] theorem State.mark_layout' (k : NoticeClass) : (s.mark k).layout = s.layout := rfl

@[simp] theorem State.queueReply_link (f : Frame) : (s.queueReply f).link = { s.link with replies := s.link.replies ++ [f] } := rfl
@[simp] theorem State.queueReply_receivers (f : Frame) : (s.queueReply f).receivers = s.receivers := rfl
@[simp] theorem State.queueReply_hall (f : Frame) : (s.queueReply f).hall = s.hall := rfl
@[simp] theorem State.queueReply_lines (f : Frame) : (s.queueReply f).lines = s.lines := rfl
@[simp] theorem State.queueReply_bayTable (f : Frame) : (s.queueReply f).bayTable = s.bayTable := rfl
@[simp] theorem State.queueReply_channels (f : Frame) : (s.queueReply f).channels = s.channels := rfl
@[simp] theorem State.queueReply_monitors (f : Frame) : (s.queueReply f).monitors = s.monitors := rfl
@[simp] theorem State.queueReply_budget (f : Frame) : (s.queueReply f).budget = s.budget := rfl
@[simp] theorem State.queueReply_composer (f : Frame) : (s.queueReply f).composer = s.composer := rfl
@[simp] theorem State.queueReply_remnants (f : Frame) : (s.queueReply f).remnants = s.remnants := rfl
@[simp] theorem State.queueReply_dispatcher (f : Frame) : (s.queueReply f).dispatcher = s.dispatcher := rfl
@[simp] theorem State.queueReply_cranes (f : Frame) : (s.queueReply f).cranes = s.cranes := rfl
@[simp] theorem State.queueReply_sent (f : Frame) : (s.queueReply f).sent = s.sent := rfl
@[simp] theorem State.queueReply_pending (f : Frame) : (s.queueReply f).pending = s.pending := rfl
@[simp] theorem State.queueReply_bay' (f : Frame) (b : BayIx) : (s.queueReply f).bay b = s.bay b := rfl
@[simp] theorem State.queueReply_channel' (f : Frame) (h : Gantry) : (s.queueReply f).channel h = s.channel h := rfl
@[simp] theorem State.queueReply_monitor' (f : Frame) (h : Gantry) : (s.queueReply f).monitor h = s.monitor h := rfl
@[simp] theorem State.queueReply_booking' (f : Frame) (h : Gantry) : (s.queueReply f).booking h = s.booking h := rfl
@[simp] theorem State.queueReply_line' (f : Frame) (i : LineIx) : (s.queueReply f).line i = s.line i := rfl
@[simp] theorem State.queueReply_heat' (f : Frame) (k : HeatIx) : (s.queueReply f).heat k = s.heat k := rfl
@[simp] theorem State.queueReply_remnant' (f : Frame) (j : RemnantIx) : (s.queueReply f).remnant j = s.remnant j := rfl
@[simp] theorem State.queueReply_crane' (f : Frame) (d : CraneId) : (s.queueReply f).crane d = s.crane d := rfl
@[simp] theorem State.queueReply_order' (f : Frame) (n : Nat) : (s.queueReply f).order n = s.order n := rfl
@[simp] theorem State.queueReply_settings' (f : Frame) : (s.queueReply f).settings = s.settings := rfl
@[simp] theorem State.queueReply_layout' (f : Frame) : (s.queueReply f).layout = s.layout := rfl

@[simp] theorem State.callPass_link : (s.callPass).link = s.link := rfl
@[simp] theorem State.callPass_receivers : (s.callPass).receivers = s.receivers := rfl
@[simp] theorem State.callPass_hall : (s.callPass).hall = s.hall := rfl
@[simp] theorem State.callPass_lines : (s.callPass).lines = s.lines := rfl
@[simp] theorem State.callPass_bayTable : (s.callPass).bayTable = s.bayTable := rfl
@[simp] theorem State.callPass_channels : (s.callPass).channels = s.channels := rfl
@[simp] theorem State.callPass_monitors : (s.callPass).monitors = s.monitors := rfl
@[simp] theorem State.callPass_budget : (s.callPass).budget = s.budget := rfl
@[simp] theorem State.callPass_composer : (s.callPass).composer = s.composer := rfl
@[simp] theorem State.callPass_remnants : (s.callPass).remnants = s.remnants := rfl
@[simp] theorem State.callPass_dispatcher : (s.callPass).dispatcher = { s.dispatcher with passDue := true } := rfl
@[simp] theorem State.callPass_cranes : (s.callPass).cranes = s.cranes := rfl
@[simp] theorem State.callPass_sent : (s.callPass).sent = s.sent := rfl
@[simp] theorem State.callPass_pending : (s.callPass).pending = s.pending := rfl
@[simp] theorem State.callPass_bay' (b : BayIx) : (s.callPass).bay b = s.bay b := rfl
@[simp] theorem State.callPass_channel' (h : Gantry) : (s.callPass).channel h = s.channel h := rfl
@[simp] theorem State.callPass_monitor' (h : Gantry) : (s.callPass).monitor h = s.monitor h := rfl
@[simp] theorem State.callPass_booking' (h : Gantry) : (s.callPass).booking h = s.booking h := rfl
@[simp] theorem State.callPass_line' (i : LineIx) : (s.callPass).line i = s.line i := rfl
@[simp] theorem State.callPass_heat' (k : HeatIx) : (s.callPass).heat k = s.heat k := rfl
@[simp] theorem State.callPass_remnant' (j : RemnantIx) : (s.callPass).remnant j = s.remnant j := rfl
@[simp] theorem State.callPass_crane' (d : CraneId) : (s.callPass).crane d = s.crane d := rfl
@[simp] theorem State.callPass_layout' : (s.callPass).layout = s.layout := rfl
@[simp] theorem State.callPass_notice' (q : NoticeClass) : (s.callPass).notice q = s.notice q := rfl

/-! ## The cell an update changes, and the others -/

@[simp] theorem State.modBay_bay_same (a : BayIx) (f : Bay → Bay) : (s.modBay a f).bay a = f (s.bay a) := by
  simp [State.bay]

theorem State.modBay_bay (a b : BayIx) (f : Bay → Bay) : (s.modBay a f).bay b = if b = a then f (s.bay a) else s.bay b := by
  simp only [State.bay, State.modBay_bayTable, get_put]

@[simp] theorem State.modChannel_channel_same (g : Gantry) (f : Channel → Channel) :
    (s.modChannel g f).channel g = f (s.channel g) := by
  simp [State.channel]

theorem State.modChannel_channel (g h : Gantry) (f : Channel → Channel) :
    (s.modChannel g f).channel h = if h = g then f (s.channel g) else s.channel h := by
  simp only [State.channel, State.modChannel_channels, get_put]

@[simp] theorem State.modMonitor_monitor_same (g : Gantry) (f : Monitor → Monitor) :
    (s.modMonitor g f).monitor g = f (s.monitor g) := by
  simp [State.monitor]

theorem State.modMonitor_monitor (g h : Gantry) (f : Monitor → Monitor) :
    (s.modMonitor g f).monitor h = if h = g then f (s.monitor g) else s.monitor h := by
  simp only [State.monitor, State.modMonitor_monitors, get_put]

@[simp] theorem State.modLine_line_same (l : LineIx) (f : Line → Line) : (s.modLine l f).line l = f (s.line l) := by
  simp [State.line]

theorem State.modLine_line (l i : LineIx) (f : Line → Line) :
    (s.modLine l f).line i = if i = l then f (s.line l) else s.line i := by
  simp only [State.line, State.modLine_lines, get_put]

@[simp] theorem State.modHeat_heat_same (e : HeatIx) (f : Heat → Heat) : (s.modHeat e f).heat e = (s.heat e).map f := by
  simp [State.heat]

theorem State.modHeat_heat (e k : HeatIx) (f : Heat → Heat) :
    (s.modHeat e f).heat k = if k = e then (s.heat e).map f else s.heat k := by
  simp only [State.heat, State.modHeat_composer, get_put]

@[simp] theorem State.setRemnant_remnant_same (r : RemnantIx) (x : Option Remnant) : (s.setRemnant r x).remnant r = x := by
  simp [State.remnant]

theorem State.setRemnant_remnant (r j : RemnantIx) (x : Option Remnant) :
    (s.setRemnant r x).remnant j = if j = r then x else s.remnant j := by
  simp only [State.remnant, State.setRemnant_remnants, get_put]

theorem State.modRemnant_remnant (r j : RemnantIx) (f : Remnant → Remnant) :
    (s.modRemnant r f).remnant j = if j = r then (s.remnant r).map f else s.remnant j := by
  simp only [State.remnant, State.modRemnant_remnants, get_put]

@[simp] theorem ByCrane.get_put_same {α : Type} (v : ByCrane α) (c : CraneId) (x : α) : (v.put c x).get c = x := by
  cases c <;> rfl

theorem ByCrane.get_put {α : Type} (v : ByCrane α) (c d : CraneId) (x : α) :
    (v.put c x).get d = if d = c then x else v.get d := by
  cases c <;> cases d <;> rfl

@[simp] theorem State.modCrane_crane_same (c : CraneId) (f : Crane → Crane) : (s.modCrane c f).crane c = f (s.crane c) := by
  simp [State.crane]

theorem State.modCrane_crane (c d : CraneId) (f : Crane → Crane) :
    (s.modCrane c f).crane d = if d = c then f (s.crane c) else s.crane d := by
  simp only [State.crane, State.modCrane_cranes, ByCrane.get_put]

@[simp] theorem State.modBudget_booking (f : Budget → Budget) (g : Gantry) :
    (s.modBudget f).booking g = (f s.budget).bookings.get g := rfl

theorem NoticeClass.index_injective (k q : NoticeClass) (h : k.index = q.index) : k = q := by
  have hv := congrArg Fin.val h
  cases k <;> cases q <;> (try cases ‹CraneId›) <;> (try cases ‹CraneId›) <;> simp [NoticeClass.index] at hv ⊢ <;> first | exact hv | exact Fin.ext hv | omega

/-- A marking adds one occurrence to its own class and to no other. -/
theorem State.mark_notice (k q : NoticeClass) :
    (s.mark k).notice q = if q = k then { s.notice k with pending := true, count := bump8 (s.notice k).count } else s.notice q := by
  by_cases h : q = k
  · subst h; simp [State.notice]
  · have h' : q.index ≠ k.index := fun e => h (NoticeClass.index_injective q k e)
    simp [State.notice, get_put_other, h, h']

/-- A port's receiver after one receiver is set. -/
theorem Receivers.get_set (r : Receivers) (p q : Port) (x : Receiver) : (r.set p x).get q = if q = p then x else r.get q := by
  cases p <;> cases q <;> simp [Receivers.get, Receivers.set, Sys2Proof.get_put, ByCrane.get_put]

/-- Setting a receiver to what it is changes nothing. -/
theorem Receivers.set_get (r : Receivers) (p : Port) : r.set p (r.get p) = r := by
  cases p with
  | host => rfl
  | gantry g => simp [Receivers.get, Receivers.set, put, vector_get_eq]
  | crane c => cases c <;> rfl

end Sys2Proof.Machine
end

