-- ==== Sys2Proof/Laws/Budget.lean ====
section
/-! SUPPORT. The feeder budget's operations, said once: what each does to bookings, total, gate and wait list. -/

namespace Sys2Proof.Machine

variable (s : State)

/-- A change of the cause set is a change of the causes and of the count of gate closings, nothing else in the record. -/
theorem State.setCauses_budget (c : GateCauses) :
    (s.setCauses c).budget = { s.budget with causes := c, gateClosings := (s.setCauses c).budget.gateClosings } := by
  unfold State.setCauses
  split
  · rename_i h
    subst h
    rfl
  · rfl

@[simp] theorem State.setCauses_causes (c : GateCauses) : (s.setCauses c).budget.causes = c := by
  rw [setCauses_budget]

@[simp] theorem State.setCauses_waitList (c : GateCauses) : (s.setCauses c).budget.waitList = s.budget.waitList := by
  rw [setCauses_budget]

/-- A changed cause set marks BUDGET. -/
theorem State.setCauses_marks (c : GateCauses) (h : c ≠ s.budget.causes) :
    (s.setCauses c).link = (s.mark .budget).link := by
  unfold State.setCauses
  rw [if_neg h]
  rfl

/-- The evaluation of LOAD changes LOAD and the count of gate closings, nothing else in the record. -/
theorem State.evalLoad_budget : s.evalLoad.budget =
    { s.budget with
      causes := { s.budget.causes with load := s.evalLoad.budget.causes.load }
      gateClosings := s.evalLoad.budget.gateClosings } := by
  unfold State.evalLoad
  dsimp only
  split
  · rw [setCauses_budget]
  · split
    · rw [setCauses_budget]
    · rfl

/-- R70: LOAD after an evaluation. -/
theorem State.evalLoad_load : s.evalLoad.budget.causes.load =
    if s.budget.high < s.budget.total then true
    else if s.budget.total ≤ s.budget.low then false else s.budget.causes.load := by
  unfold State.evalLoad
  dsimp only
  split
  · simp
  · split
    · simp
    · rfl

@[simp] theorem State.evalLoad_waitList : s.evalLoad.budget.waitList = s.budget.waitList := by rw [evalLoad_budget]
@[simp] theorem State.evalLoad_total : s.evalLoad.budget.total = s.budget.total := by rw [evalLoad_budget]
@[simp] theorem State.evalLoad_limit : s.evalLoad.budget.limit = s.budget.limit := by rw [evalLoad_budget]
@[simp] theorem State.evalLoad_bookings : s.evalLoad.budget.bookings = s.budget.bookings := by rw [evalLoad_budget]
@[simp] theorem State.evalLoad_hall : s.evalLoad.budget.causes.hall = s.budget.causes.hall := by rw [evalLoad_budget]

/-- R71, R67: one booking replaced, and T moved by the difference. -/
theorem State.setBooking_budget (g : Gantry) (k : Booking) : (s.setBooking g k).budget =
    { s.budget with
      bookings := put s.budget.bookings g k
      total := s.budget.total - (s.budget.bookings.get g).amount + k.amount } := rfl

/-- R67: an admission replaces the booking and evaluates LOAD; the wait list is not touched. -/
theorem State.admitChannel_budget (g : Gantry) (kind : ArcKind) (amount : Nat) :
    (s.admitChannel g kind amount).budget = (s.setBooking g ⟨kind.booking, amount⟩).evalLoad.budget := by
  have h := fun u : State => beginStrike_changes u g .budget (by decide)
  exact (h _).trans rfl

/-- R73: a test that finds the gate CLOSED does nothing. -/
theorem State.testWaitListN_closed (n : Nat) (h : s.budget.causes.isOpen = false) : s.testWaitListN n = s := by
  cases n with
  | zero => rfl
  | succ n =>
    unfold State.testWaitListN
    split
    · rfl
    · rw [if_neg (by simp [h])]

theorem State.testWaitList_closed (h : s.budget.causes.isOpen = false) : s.testWaitList = s := testWaitListN_closed s _ h

/-- R73: a test that finds the list empty does nothing. -/
theorem State.testWaitList_empty (h : s.budget.waitList = []) : s.testWaitList = s := by
  unfold State.testWaitList
  rw [h]
  rfl

/-- R72: a hall cause keeps the gate CLOSED. -/
theorem GateCauses.isOpen_of_hall (c : GateCauses) (k : HallGateCause) (h : c.hall = some k) : c.isOpen = false := by
  simp [GateCauses.isOpen, h]

/-- R72: handing the gate a hall cause closes it or keeps it closed, and no waiter is admitted. -/
theorem State.setHallGate_some (k : HallGateCause) :
    s.setHallGate (some k) = s.setCauses { s.budget.causes with hall := some k } := by
  unfold State.setHallGate
  exact testWaitList_closed _ (GateCauses.isOpen_of_hall _ k (by simp))

/-- R67: what an admission leaves of another channel: its record, its monitor, and its booking. -/
theorem State.admitChannel_other (g h : Gantry) (kind : ArcKind) (amount : Nat) (hg : h ≠ g) :
    (s.admitChannel g kind amount).channel h = s.channel h ∧ (s.admitChannel g kind amount).monitor h = s.monitor h ∧
      (s.admitChannel g kind amount).booking h = s.booking h := by
  have hc : ∀ u : State, (u.beginStrike g).channel h = u.channel h := fun u => by
    have := beginStrike_changes u g .channels (by decide)
    exact congrArg (fun v => v.get h) this
  have hm : ∀ u : State, (u.beginStrike g).monitor h = u.monitor h := fun u => by
    unfold State.beginStrike
    split
    · rfl
    · rename_i p
      have ht : (u.torchOn g).monitors = u.monitors := torchOn_changes u g .monitors (by decide)
      simp only [State.monitor, State.mark_monitors, State.modMonitor]
      rw [get_put_other _ _ _ _ hg, ht]
  refine ⟨?_, ?_, ?_⟩
  · unfold State.admitChannel
    dsimp only
    rw [hc]
    simp only [State.channel, State.modChannel]
    rw [get_put_other _ _ _ _ hg]
    exact congrArg (fun v => v.get h) (evalLoad_changes _ .channels (by decide))
  · unfold State.admitChannel
    dsimp only
    rw [hm]
    exact congrArg (fun v => v.get h) (evalLoad_changes _ .monitors (by decide))
  · unfold State.booking
    rw [admitChannel_budget, evalLoad_bookings, setBooking_budget]
    exact get_put_other _ _ _ _ hg

/-- R73: a test of the wait list leaves alone every channel that does not wait. -/
theorem State.testWaitListN_other (h : Gantry) (n : Nat) (hw : ∀ w ∈ s.budget.waitList, w.channel ≠ h) :
    (s.testWaitListN n).channel h = s.channel h ∧ (s.testWaitListN n).monitor h = s.monitor h ∧
      (s.testWaitListN n).booking h = s.booking h := by
  induction n generalizing s with
  | zero => exact ⟨rfl, rfl, rfl⟩
  | succ n ih =>
    unfold State.testWaitListN
    split
    · exact ⟨rfl, rfl, rfl⟩
    · rename_i w rest hl
      split
      · rw [hl] at hw
        have hn := hw w (by simp)
        have hr : ∀ v ∈ rest, v.channel ≠ h := fun v hv => hw v (by simp [hv])
        have hi := ih ((s.modBudget (fun b => { b with waitList := rest, fromList := bump b.fromList })).admitChannel w.channel w.kind
          w.amount) (by rw [admitChannel_budget]; simpa [setBooking_budget] using hr)
        obtain ⟨h1, h2, h3⟩ := admitChannel_other (s.modBudget (fun b => { b with waitList := rest, fromList := bump b.fromList }))
          w.channel h w.kind w.amount (Ne.symm hn)
        exact ⟨hi.1.trans h1, hi.2.1.trans h2, hi.2.2.trans h3⟩
      · exact ⟨rfl, rfl, rfl⟩

theorem State.testWaitList_other (h : Gantry) (hw : ∀ w ∈ s.budget.waitList, w.channel ≠ h) :
    s.testWaitList.channel h = s.channel h ∧ s.testWaitList.monitor h = s.monitor h ∧
      s.testWaitList.booking h = s.booking h := testWaitListN_other s h _ hw

/-- R73: a test admits from the head alone: what remains is the list less some of its oldest entries. -/
theorem State.testWaitListN_drops (n : Nat) : ∃ k, (s.testWaitListN n).budget.waitList = s.budget.waitList.drop k := by
  induction n generalizing s with
  | zero => exact ⟨0, rfl⟩
  | succ n ih =>
    unfold State.testWaitListN
    split
    · exact ⟨0, rfl⟩
    · rename_i w rest hl
      split
      · obtain ⟨k, hk⟩ := ih ((s.modBudget (fun b => { b with waitList := rest, fromList := bump b.fromList })).admitChannel w.channel
          w.kind w.amount)
        refine ⟨k + 1, ?_⟩
        rw [hk, admitChannel_budget, hl]
        simp [setBooking_budget]
      · exact ⟨0, rfl⟩

theorem State.testWaitList_drops : ∃ k, s.testWaitList.budget.waitList = s.budget.waitList.drop k := testWaitListN_drops s _

end Sys2Proof.Machine
end

