-- ==== Sys2Proof/Laws/Bytes.lean ====
section
/-! SUPPORT. How the number fields of a body read back, so that no later proof unfolds a byte list. -/

namespace Sys2Proof.Machine

theorem toBytes_length (w n : Nat) : (toBytes w n).length = w := by
  induction w generalizing n with
  | zero => rfl
  | succ w ih => simp [toBytes, ih]

theorem ofBytes_toBytes (w n : Nat) (h : n < 256 ^ w) : ofBytes (toBytes w n) = n := by
  induction w generalizing n with
  | zero => simp at h; subst h; rfl
  | succ w ih =>
    have h' : n / 256 < 256 ^ w := by
      rw [Nat.pow_succ] at h
      exact Nat.div_lt_of_lt_mul (by omega)
    simp only [toBytes, ofBytes, ih _ h']
    simp only [BitVec.toNat_ofNat]
    omega

/-- A field that starts past the first part of a body. -/
theorem num_skip (a r : List Byte) (k w : Nat) (h : a.length ≤ k) : num (a ++ r) k w = num r (k - a.length) w := by
  unfold num
  rw [List.drop_append, List.drop_eq_nil_of_le h, List.nil_append]

/-- The number at the head of a body. -/
theorem num_head (w n : Nat) (r : List Byte) (h : n < 256 ^ w) : num (toBytes w n ++ r) 0 w = n := by
  unfold num
  rw [List.drop_zero, List.take_append_of_le_length (Nat.le_of_eq (toBytes_length w n).symm),
    List.take_of_length_le (Nat.le_of_eq (toBytes_length w n)), ofBytes_toBytes w n h]

theorem num_all (w n : Nat) (h : n < 256 ^ w) : num (toBytes w n) 0 w = n := by
  have := num_head w n [] h
  rwa [List.append_nil] at this

@[simp] theorem num_u8 (n : Nat) (h : n < 256) : num (u8 n) 0 1 = n := num_all 1 n h
@[simp] theorem num_u16 (n : Nat) (h : n < 65536) : num (u16 n) 0 2 = n := num_all 2 n h
@[simp] theorem num_u32 (n : Nat) (h : n < 4294967296) : num (u32 n) 0 4 = n := num_all 4 n h
@[simp] theorem num_u8_head (n : Nat) (r : List Byte) (h : n < 256) : num (u8 n ++ r) 0 1 = n := num_head 1 n r h
@[simp] theorem num_u16_head (n : Nat) (r : List Byte) (h : n < 65536) : num (u16 n ++ r) 0 2 = n := num_head 2 n r h
@[simp] theorem num_u24_head (n : Nat) (r : List Byte) (h : n < 16777216) : num (toBytes 3 n ++ r) 0 3 = n := num_head 3 n r h
@[simp] theorem num_u32_head (n : Nat) (r : List Byte) (h : n < 4294967296) : num (u32 n ++ r) 0 4 = n := num_head 4 n r h
@[simp] theorem num_flag_head (b : Bool) (r : List Byte) : num (flag b ++ r) 0 1 = if b then 1 else 0 := by cases b <;> rfl
@[simp] theorem num_flag (b : Bool) : num (flag b) 0 1 = if b then 1 else 0 := by cases b <;> rfl
@[simp] theorem num_u8_next (n k w : Nat) (r : List Byte) : num (u8 n ++ r) (k + 1) w = num r k w := rfl
@[simp] theorem num_u16_next (n k w : Nat) (r : List Byte) : num (u16 n ++ r) (k + 2) w = num r k w := rfl
@[simp] theorem num_u24_next (n k w : Nat) (r : List Byte) : num (toBytes 3 n ++ r) (k + 3) w = num r k w := rfl
@[simp] theorem num_u32_next (n k w : Nat) (r : List Byte) : num (u32 n ++ r) (k + 4) w = num r k w := rfl
@[simp] theorem num_flag_next (b : Bool) (k w : Nat) (r : List Byte) : num (flag b ++ r) (k + 1) w = num r k w := rfl

@[simp] theorem u8_length (n : Nat) : (u8 n).length = 1 := rfl
@[simp] theorem u16_length (n : Nat) : (u16 n).length = 2 := rfl
@[simp] theorem u32_length (n : Nat) : (u32 n).length = 4 := rfl
@[simp] theorem flag_length (b : Bool) : (flag b).length = 1 := rfl

theorem within_of {lo hi n : Nat} (h : lo ≤ n ∧ n ≤ hi) : within lo hi n = some n := if_pos h

/-- A thing numbered from 1 reads back. -/
@[simp] theorem numbered_succ {m : Nat} (i : Fin m) : numbered m (i.val + 1) = some i := by
  unfold numbered
  rw [dif_pos ⟨by omega, i.isLt⟩]
  rfl

@[simp] theorem indexed_val {m : Nat} (i : Fin m) : indexed m i.val = some i := by
  unfold indexed
  rw [dif_pos i.isLt]

@[simp] theorem flag_reads (b : Bool) : flag? (if b then 1 else 0) = some b := by cases b <;> rfl

end Sys2Proof.Machine
end

