-- ==== Sys2Proof/Laws/Crane.lean ====
section
/-! SUPPORT. What the runway controller's operations make of one crane's record. -/

namespace Sys2Proof.Machine

variable (s : State)

/-- An update of one crane's record, read back. -/
theorem State.modCrane_crane_eq (c d : CraneId) (f : Crane → Crane) :
    (s.modCrane c f).crane d = if d = c then f (s.crane c) else s.crane d := by
  cases c <;> cases d <;> rfl

theorem State.updateCrane_crane (c d : CraneId) (f : Crane → Crane) :
    (s.updateCrane c f).crane d = if d = c then f (s.crane c) else s.crane d := by
  have h : (s.updateCrane c f).crane d = (s.modCrane c f).crane d := by
    unfold State.updateCrane
    dsimp only
    split <;> split <;> rfl
  rw [h]
  exact s.modCrane_crane_eq c d f

/-- R140: a GOTO changes target, clip and clip count of its crane, and the other crane not at all. -/
theorem State.sendGoto_crane (c d : CraneId) : ∃ a cl n, (s.sendGoto c).crane d =
    if d = c then { s.crane c with target := a, clip := cl, clippedTargets := n } else s.crane d := by
  unfold State.sendGoto
  split
  · refine ⟨(s.crane c).target, (s.crane c).clip, (s.crane c).clippedTargets, ?_⟩
    split
    · rename_i h
      subst h
      rfl
    · rfl
  · rename_i g _
    refine ⟨some (s.aim c g.position).target, (s.aim c g.position).clip,
      if (s.aim c g.position).clip.isSome then bump (s.crane c).clippedTargets else (s.crane c).clippedTargets, ?_⟩
    exact s.modCrane_crane_eq c d (fun k => { k with
      target := some (s.aim c g.position).target
      clippedTargets := if (s.aim c g.position).clip.isSome then bump k.clippedTargets else k.clippedTargets
      clip := (s.aim c g.position).clip })

theorem State.retarget_crane (c d : CraneId) : ∃ a cl, (s.retarget c).crane d = { s.crane d with target := a, clip := cl } := by
  unfold State.retarget
  split
  · rw [modCrane_crane_eq]
    split
    · rename_i h
      subst h
      exact ⟨_, _, rfl⟩
    · exact ⟨_, _, rfl⟩
  · exact ⟨_, _, rfl⟩

/-- R141: settling the targets changes target and clip only. -/
theorem State.retargetBoth_crane (n : Nat) (d1 d2 : Bool) (d : CraneId) :
    ∃ a cl, (State.retargetBoth n d1 d2 s).crane d = { s.crane d with target := a, clip := cl } := by
  induction n generalizing s d1 d2 with
  | zero => exact ⟨_, _, rfl⟩
  | succ n ih =>
    have h : ∀ (u : State) (b : Bool) (c : CraneId),
        ∃ a cl, (if b then u.retarget c else u).crane d = { u.crane d with target := a, clip := cl } := by
      intro u b c
      split
      · exact retarget_crane _ _ _
      · exact ⟨_, _, rfl⟩
    unfold State.retargetBoth
    split
    · exact ⟨_, _, rfl⟩
    · dsimp only
      obtain ⟨a2, cl2, h2⟩ := h s d1 .c1
      generalize (if d1 then s.retarget .c1 else s) = u at h2 ⊢
      obtain ⟨a1, cl1, h1⟩ := h u (d2 || (u.crane .c1).target != (s.crane .c1).target) .c2
      generalize (if (d2 || (u.crane .c1).target != (s.crane .c1).target) = true then u.retarget .c2 else u) = v at h1 ⊢
      obtain ⟨a, cl, h0⟩ := ih v ((v.crane .c2).target != (u.crane .c2).target) false
      exact ⟨a, cl, by rw [h0, h1, h2]⟩

/-- R141: what settling a target can make of a crane: a WAIT crane returns to TRAVEL or takes a new cause; any other keeps its
state and has no wait cause after a GOTO. -/
inductive Crane.Settled (k : Crane) : Crane → Prop
  | kept (target : Option Nat) (clip : Option WaitCause) : k.Settled { k with target, clip }
  | sent (target : Option Nat) (clip : Option WaitCause) (clipped : Nat) :
    k.Settled { k with
      target, clip, state := if k.state = .wait then .travel else k.state, waitCause := none, clippedTargets := clipped }
  | waits (target : Option Nat) (cause : WaitCause) (h : k.state = .wait) :
    k.Settled { k with target, clip := some cause, waitCause := some cause }

theorem State.settleTarget_other (c d : CraneId) (before : Option Nat) (h : d ≠ c) :
    (s.settleTarget c before).crane d = s.crane d := by
  unfold State.settleTarget
  dsimp only
  split
  · split
    · rfl
    · show (State.updateCrane _ _ _).crane d = _
      rw [updateCrane_crane, if_neg h]
  · split
    · rw [updateCrane_crane, if_neg h]
    · rfl

theorem State.settleTarget_own (c : CraneId) (before : Option Nat) (k : Crane) (target : Option Nat) (clip : Option WaitCause)
    (h : s.crane c = { k with target, clip }) : k.Settled ((s.settleTarget c before).crane c) := by
  unfold State.settleTarget
  dsimp only
  split
  · split
    · rw [h]
      exact .kept _ _
    · show k.Settled ((State.updateCrane _ _ _).crane c)
      rw [updateCrane_crane, if_pos rfl, h]
      exact .sent _ _ _
  · split
    · rename_i hr
      rw [updateCrane_crane, if_pos rfl, h]
      rw [h] at hr
      simp only [Bool.and_eq_true, beq_iff_eq] at hr
      obtain ⟨⟨_, hw⟩, hc⟩ := hr
      obtain ⟨cause, hcl⟩ := Option.isSome_iff_exists.mp hc
      subst hcl
      exact .waits _ _ hw
    · rw [h]
      exact .kept _ _

/-- R141: what one recomputation can make of a crane. -/
theorem State.recompute_crane (due : ByCrane Bool) (d : CraneId) : (s.crane d).Settled ((s.recompute due).crane d) := by
  unfold State.recompute
  dsimp only
  obtain ⟨a, cl, h⟩ := retargetBoth_crane s 8 due.c1 due.c2 d
  cases d
  · rw [settleTarget_other _ .c2 .c1 _ (by decide)]
    exact settleTarget_own _ .c1 _ _ a cl h
  · refine settleTarget_own _ .c2 _ _ a cl ?_
    rw [settleTarget_other _ .c1 .c2 _ (by decide)]
    exact h

/-- A crane that does not wait keeps its state through a recomputation. -/
theorem Crane.Settled.state_eq {k k' : Crane} (h : k.Settled k') (hw : k.state ≠ .wait) : k'.state = k.state := by
  cases h with
  | kept => rfl
  | sent => exact if_neg hw
  | waits _ _ h => exact absurd h hw

/-- A recomputation leaves the goal, the order, the hook and the stop cause. -/
theorem Crane.Settled.keeps {k k' : Crane} (h : k.Settled k') :
    k'.goal = k.goal ∧ k'.order = k.order ∧ k'.hook = k.hook ∧ k'.stopCause = k.stopCause ∧ k'.position = k.position ∧
      k'.hoistTimer = k.hoistTimer ∧ k'.silenceTimer = k.silenceTimer ∧ k'.hookLoaded = k.hookLoaded ∧ k'.drive = k.drive ∧
      k'.withdrawn = k.withdrawn ∧ k'.strays = k.strays ∧ k'.lastEnded = k.lastEnded := by
  cases h <;> exact ⟨rfl, rfl, rfl, rfl, rfl, rfl, rfl, rfl, rfl, rfl, rfl, rfl⟩

/-- R150: a crane sent to park travels to its park position. -/
theorem State.sendToPark_own (c : CraneId) : ((s.sendToPark c).crane c).state = .travel ∧
    ((s.sendToPark c).crane c).goal = some ⟨s.settings.park.get c, .park⟩ := by
  unfold State.sendToPark
  dsimp only
  generalize hu : ((s.modCrane c (fun k => { k with goal := some ⟨s.settings.park.get c, .park⟩ })).sendGoto c).updateCrane c
    (fun k => { k with state := .travel, waitCause := none, stopCause := none }) = u
  have e : (u.crane c).state = .travel ∧ (u.crane c).goal = some ⟨s.settings.park.get c, .park⟩ := by
    rw [← hu, updateCrane_crane, if_pos rfl]
    obtain ⟨a, cl, n, h⟩ := sendGoto_crane (s.modCrane c (fun k => { k with goal := some ⟨s.settings.park.get c, .park⟩ })) c c
    rw [h, if_pos rfl, modCrane_crane_eq, if_pos rfl]
    exact ⟨rfl, rfl⟩
  have r := u.recompute_crane ⟨c = .c2, c = .c1⟩ c
  exact ⟨(r.state_eq (by rw [e.1]; decide)).trans e.1, r.keeps.1.trans e.2⟩

/-- R150: the other crane, when one is sent to park. -/
theorem State.sendToPark_other (c d : CraneId) (h : d ≠ c) : (s.crane d).Settled ((s.sendToPark c).crane d) := by
  unfold State.sendToPark
  dsimp only
  generalize hu : ((s.modCrane c (fun k => { k with goal := some ⟨s.settings.park.get c, .park⟩ })).sendGoto c).updateCrane c
    (fun k => { k with state := .travel, waitCause := none, stopCause := none }) = u
  have e : u.crane d = s.crane d := by
    rw [← hu, updateCrane_crane, if_neg h]
    obtain ⟨a, cl, n, h'⟩ := sendGoto_crane (s.modCrane c (fun k => { k with goal := some ⟨s.settings.park.get c, .park⟩ })) c d
    rw [h', if_neg h, modCrane_crane_eq, if_neg h]
  rw [← e]
  exact u.recompute_crane _ d

/-! ## Promotion (R125) -/

/-- Order n moves to the tail of the urgent list; nothing else of the dispatcher but its promoted flag, the count and the pass due. -/
theorem State.promote_eq (n : Nat) : s.promote n = { s with dispatcher := { s.dispatcher with
    normal := s.dispatcher.normal.filter (· != n)
    urgent := s.dispatcher.urgent ++ [n]
    promotions := bump s.dispatcher.promotions
    orders := s.dispatcher.orders.map (fun o => if o.number == n then { o with promoted := true } else o)
    passDue := true } } := rfl

/-- Order n has waited at least the aging time; nothing else changes. -/
theorem State.ageOrder_eq (n : Nat) : s.ageOrder n = { s with dispatcher := { s.dispatcher with
    orders := s.dispatcher.orders.map (fun o => if o.number == n then
      { o with queuedMs := o.queuedMs.map (fun t => max t (s.settings.agingTime * 1000)) } else o) } } := rfl

/-- Orders promoted one after another join the tail of the urgent list in that order. -/
theorem State.foldl_promote_urgent (l : List Nat) :
    (l.foldl State.promote s).dispatcher.urgent = s.dispatcher.urgent ++ l := by
  induction l generalizing s with
  | nil => exact (List.append_nil _).symm
  | cons n l ih =>
    refine (ih (s.promote n)).trans ?_
    simp [State.promote_eq]

/-! ## The separation test (R147) -/

/-- Cranes that stand S apart or more are left alone. -/
theorem State.separationTest_apart (h : s.tooClose = false) : s.separationTest = s := by
  unfold State.separationTest
  rw [h]
  rfl

/-- Cranes found too close are both stopped, and the fault is counted unless both have its cause already. -/
theorem State.separationTest_close (h : s.tooClose = true) :
    s.separationTest = (s.countSeparation.stopCrane .c1 .separation).stopCrane .c2 .separation := by
  unfold State.separationTest
  rw [h]
  rfl

/-- R9, R106: a plate that names no remnant record keeps its own dimensions at the lift. -/
theorem State.plateLoad_plain {p : Plate} (h : p.remnant = none) : s.plateLoad p = p.load := by
  simp [State.plateLoad, h]

/-- R114: a plate that names a remnant record has that record's raw dimensions at the lift, and the rest of its own fields. -/
theorem State.plateLoad_named {p : Plate} {i : RemnantIx} {m : Remnant} (h : p.remnant = some i) (hm : s.remnant i = some m) :
    s.plateLoad p = ⟨p.heat, p.grade, p.thickness, m.rawWidth, m.rawLength, some i⟩ := by
  simp [State.plateLoad, Plate.load, LoadRecord.takeDimensions, h, hm]

end Sys2Proof.Machine
end

