-- ==== Sys2Proof/Laws/Notices.lean ====
section
/-! SUPPORT. What every operation but a sending, a clearing, a reset and the end of a run keeps: pending notices stay pending
(R172), no CHANNEL_END class is marked (R45), and messages are only added to those sent. -/

namespace Sys2Proof.Machine

open State

set_option Elab.async false

/-- From s to t pending notices stay pending, no CHANNEL_END class is marked, and the messages sent only grow. -/
structure State.Proceeds (s t : State) : Prop where
  pending : ∀ q, (s.notice q).pending = true → (t.notice q).pending = true
  ends : ∀ g, t.notice (.channelEnd g) = s.notice (.channelEnd g)
  sent : ∃ more, t.sent = s.sent ++ more

theorem State.mark_sets_pending (s : State) (k : NoticeClass) : ((s.mark k).notice k).pending = true := by
  rw [mark_notice]
  simp

variable {s t u : State}

theorem State.Proceeds.refl : s.Proceeds s := ⟨fun _ h => h, fun _ => rfl, [], (List.append_nil _).symm⟩

theorem State.Proceeds.trans (h : s.Proceeds t) (k : t.Proceeds u) : s.Proceeds u := by
  refine ⟨fun q hq => k.pending q (h.pending q hq), fun g => (k.ends g).trans (h.ends g), ?_⟩
  obtain ⟨m, hm⟩ := h.sent
  obtain ⟨n, hn⟩ := k.sent
  exact ⟨m ++ n, by rw [hn, hm, List.append_assoc]⟩

/-- What does not change the notices keeps them pending. -/
theorem State.ChangesOnly.proceeds {ps : List Part} (h : s.ChangesOnly ps t) (hn : Part.notices ∉ ps := by decide)
    (hs : Part.sent ∉ ps := by decide) : s.Proceeds t := by
  have e : ∀ q, t.notice q = s.notice q := fun q => congrArg (fun v => v.get q.index) (h .notices hn)
  exact ⟨fun q hq => (congrArg (·.pending) (e q)).trans hq, fun g => e _, [], (h .sent hs).trans (List.append_nil _).symm⟩

variable (s)

theorem State.mark_proceeds (k : NoticeClass) (hk : ∀ g, k ≠ .channelEnd g := by intro _ h; cases h) :
    s.Proceeds (s.mark k) := by
  refine ⟨fun q h => ?_, fun g => ?_, [], (List.append_nil _).symm⟩
  · rw [mark_notice]
    split
    · rfl
    · exact h
  · rw [mark_notice, if_neg (fun h => hk g h.symm)]

theorem State.tellGantry_proceeds (g : Gantry) (m : GantryMessage) : s.Proceeds (s.tellGantry g m) :=
  ⟨fun _ h => h, fun _ => rfl, [.gantry g m], rfl⟩

theorem State.tellCrane_proceeds (c : CraneId) (m : CraneMessage) : s.Proceeds (s.tellCrane c m) :=
  ⟨fun _ h => h, fun _ => rfl, [.crane c m], rfl⟩

theorem State.torchOn_proceeds (g : Gantry) : s.Proceeds (s.torchOn g) := by
  unfold State.torchOn
  split
  · exact tellGantry_proceeds _ _ _
  · exact .refl

theorem State.setCauses_proceeds (c : GateCauses) : s.Proceeds (s.setCauses c) := by
  unfold State.setCauses
  split
  · exact .refl
  · exact (modBudget_changes s _).proceeds.trans (mark_proceeds _ _)

theorem State.evalLoad_proceeds : s.Proceeds s.evalLoad := by
  unfold State.evalLoad
  dsimp only
  split
  · exact setCauses_proceeds _ _
  · split
    · exact setCauses_proceeds _ _
    · exact .refl

theorem State.beginStrike_proceeds (g : Gantry) : s.Proceeds (s.beginStrike g) := by
  unfold State.beginStrike
  split
  · exact .refl
  · exact ((torchOn_proceeds s g).trans (modMonitor_changes _ _ _).proceeds).trans (mark_proceeds _ _)

theorem State.admitChannel_proceeds (g : Gantry) (kind : ArcKind) (amount : Nat) : s.Proceeds (s.admitChannel g kind amount) :=
  (((setBooking_changes s _ _).proceeds.trans (evalLoad_proceeds _)).trans
    (modChannel_changes _ _ _).proceeds).trans (beginStrike_proceeds _ _)

theorem State.testWaitListN_proceeds (n : Nat) : s.Proceeds (s.testWaitListN n) := by
  induction n generalizing s with
  | zero => exact .refl
  | succ n ih =>
    unfold State.testWaitListN
    split
    · exact .refl
    · split
      · exact ((modBudget_changes s _).proceeds.trans (admitChannel_proceeds _ _ _ _)).trans (ih _)
      · exact .refl

theorem State.testWaitList_proceeds : s.Proceeds s.testWaitList := testWaitListN_proceeds _ _

theorem State.setHallGate_proceeds (h : Option HallGateCause) : s.Proceeds (s.setHallGate h) :=
  (setCauses_proceeds _ _).trans (testWaitList_proceeds _)

theorem State.releaseBooking_proceeds (g : Gantry) : s.Proceeds (s.releaseBooking g) :=
  ((setBooking_changes s _ _).proceeds.trans (evalLoad_proceeds _)).trans (testWaitList_proceeds _)

theorem State.removeWaiter_proceeds (g : Gantry) : s.Proceeds (s.removeWaiter g) := by
  unfold State.removeWaiter
  split
  · exact (modBudget_changes s _).proceeds.trans (testWaitList_proceeds _)
  · exact .refl

theorem State.goDark_proceeds (g : Gantry) : s.Proceeds (s.goDark g) := by
  unfold State.goDark
  dsimp only
  refine .trans (.trans ?_ (modMonitor_changes _ _ _).proceeds) (releaseBooking_proceeds _ _)
  split
  · exact (tellGantry_proceeds s _ _).trans (tellGantry_proceeds _ _ _)
  · exact (tellGantry_proceeds s _ _)

theorem State.putOutIfLit_proceeds (g : Gantry) : s.Proceeds (s.putOutIfLit g) := by
  unfold State.putOutIfLit
  split
  · exact (goDark_proceeds _ _).trans (mark_proceeds _ _)
  · exact .refl

theorem State.settleMark_proceeds (g : Gantry) : s.Proceeds (s.settleMark g) := by
  have ho : ∀ (u : State) (r : TraceRecord), u.Proceeds (u.markOutcome r) :=
    fun u r => (modComposer_changes u _).proceeds.trans (mark_proceeds _ _)
  have hw : ∀ (u : State) (part : Nat) (o : TraceOutcome), u.Proceeds (u.traceWithoutSerial g part o) := by
    intro u part o
    unfold State.traceWithoutSerial
    split
    · exact .refl
    · exact (makeTrace_changes u _).proceeds.trans (ho _ _)
  unfold State.settleMark
  split
  · refine .trans ?_ (markDone_changes _ _).proceeds
    split
    · exact ((modComposer_changes s _).proceeds.trans (modHeat_changes _ _ _).proceeds).trans (ho _ _)
    · exact hw _ _ _
    · exact hw _ _ _
  · exact .refl

theorem State.updateCrane_proceeds (c : CraneId) (f : Crane → Crane) : s.Proceeds (s.updateCrane c f) := by
  have h1 : ∀ (u : State) (p : Prop) [Decidable p], u.Proceeds (if p then u else u.mark (.crane c)) := by
    intro u p _
    split
    · exact .refl
    · exact mark_proceeds _ _
  have h2 : ∀ (u : State) (p : Prop) [Decidable p],
      u.Proceeds (if p then u else u.modDispatcher (fun d => { d with passDue := true })) := by
    intro u p _
    split
    · exact .refl
    · exact (callPass_changes u).proceeds
  exact ((modCrane_changes s _ _).proceeds.trans (h1 _ _)).trans (h2 _ _)

theorem State.sendGoto_proceeds (c : CraneId) : s.Proceeds (s.sendGoto c) := by
  unfold State.sendGoto
  split
  · exact .refl
  · exact (modCrane_changes s _ _).proceeds.trans (tellCrane_proceeds _ _ _)

theorem State.recompute_proceeds (due : ByCrane Bool) : s.Proceeds (s.recompute due) := by
  have h : ∀ (u : State) (c : CraneId) (before : Option Nat), u.Proceeds (u.settleTarget c before) := by
    intro u c before
    unfold State.settleTarget
    dsimp only
    split
    · split
      · exact .refl
      · exact (updateCrane_proceeds _ _ _).trans (tellCrane_proceeds _ _ _)
    · split
      · exact updateCrane_proceeds _ _ _
      · exact .refl
  exact ((retargetBoth_changes s _ _ _).proceeds.trans (h _ _ _)).trans (h _ _ _)

theorem State.sendToPark_proceeds (c : CraneId) : s.Proceeds (s.sendToPark c) :=
  (((modCrane_changes s _ _).proceeds.trans (sendGoto_proceeds _ _)).trans (updateCrane_proceeds _ _ _)).trans
    (recompute_proceeds _ _)

theorem State.travelTo_proceeds (c : CraneId) (site : Site) : s.Proceeds (s.travelTo c site) := by
  unfold State.travelTo
  exact ((modCrane_changes s _ _).proceeds.trans (sendGoto_proceeds _ _)).trans (updateCrane_proceeds _ _ _)

theorem State.sendYield_proceeds (c : CraneId) (p : Nat) : s.Proceeds (s.sendYield c p) := by
  unfold State.sendYield
  exact ((modCrane_changes s _ _).proceeds.trans (sendGoto_proceeds _ _)).trans (updateCrane_proceeds _ _ _)

theorem State.hallCranes_proceeds (old new : HallState) : s.Proceeds (s.hallCranes old new) := by
  have hp : ∀ (u : State) (c : CraneId), u.Proceeds (u.parkCrane c) := by
    intro u c
    unfold State.parkCrane
    split
    · exact sendToPark_proceeds _ _
    · exact sendToPark_proceeds _ _
    · exact .refl
  have hw : ∀ (u : State) (c : CraneId), u.Proceeds (u.wakeCrane c) := by
    intro u c
    unfold State.wakeCrane
    dsimp only
    split
    · exact updateCrane_proceeds _ _ _
    · split
      · exact (tellCrane_proceeds u _ _).trans (updateCrane_proceeds _ _ _)
      · exact .refl
  unfold State.hallCranes
  split
  · exact (hp _ _).trans (hp _ _)
  · split
    · exact (hw _ _).trans (hw _ _)
    · exact .refl

theorem State.assign_proceeds (o : Order) (c : CraneId) : s.Proceeds (s.assign o c) := by
  have h : ∀ (u : State) (y : SpanOutcome), u.Proceeds
      (match y with | .yields position => u.sendYield c.other position | _ => u) := by
    intro u y
    split
    · exact sendYield_proceeds _ _ _
    · exact .refl
  unfold State.assign
  dsimp only
  refine (((Proceeds.trans ?_ (h _ _)).trans (travelTo_proceeds _ _ _)).trans (recompute_proceeds _ _)).trans
    (mark_proceeds _ _)
  exact ⟨fun _ h => h, fun _ => rfl, [], (List.append_nil _).symm⟩

theorem State.passN_proceeds (n : Nat) : s.Proceeds (s.passN n) := by
  induction n generalizing s with
  | zero => exact .refl
  | succ n ih =>
    unfold State.passN
    split
    · exact .refl
    · refine (Proceeds.trans ?_ (assign_proceeds _ _ _)).trans (ih _)
      exact ⟨fun _ h => h, fun _ => rfl, [], (List.append_nil _).symm⟩

theorem State.runDuePass_proceeds : s.Proceeds s.runDuePass := by
  unfold State.runDuePass
  split
  · refine Proceeds.trans (t := (s.modDispatcher (fun d => { d with passDue := false })).dispatchPass) ?_ ⟨fun _ h => h, fun _ => rfl, [], (List.append_nil _).symm⟩
    refine Proceeds.trans (t := s.modDispatcher (fun d => { d with passDue := false })) ⟨fun _ h => h, fun _ => rfl, [], (List.append_nil _).symm⟩ ?_
    unfold State.dispatchPass
    split
    · exact passN_proceeds _ _
    · exact .refl
  · exact .refl

end Sys2Proof.Machine
end

