-- ==== Sys2Proof/Laws/Channel.lean ====
section
/-! SUPPORT. What putting out, holding and ending do to the channel they are about, where that channel does not wait. -/

namespace Sys2Proof.Machine

open State

set_option Elab.async false

variable (s : State)

/-- The channel has no entry in the wait list. -/
def State.NotWaiting (s : State) (g : Gantry) : Prop := ∀ w ∈ s.budget.waitList, w.channel ≠ g

/-- A test of the list never puts a channel into it. -/
theorem State.testWaitList_notWaiting (g : Gantry) (h : s.NotWaiting g) : s.testWaitList.NotWaiting g := by
  obtain ⟨k, hk⟩ := s.testWaitList_drops
  intro w hw
  rw [hk] at hw
  exact h w (List.mem_of_mem_drop hw)

theorem State.afterDecrease_other (g : Gantry) (h : s.NotWaiting g) : s.afterDecrease.channel g = s.channel g ∧
    s.afterDecrease.monitor g = s.monitor g ∧ s.afterDecrease.booking g = s.booking g ∧ s.afterDecrease.NotWaiting g := by
  have h' : s.evalLoad.NotWaiting g := by
    intro w hw
    rw [evalLoad_waitList] at hw
    exact h w hw
  have e := testWaitList_other s.evalLoad g h'
  have c : s.evalLoad.channels = s.channels := evalLoad_changes s .channels (by decide)
  have m : s.evalLoad.monitors = s.monitors := evalLoad_changes s .monitors (by decide)
  refine ⟨e.1.trans (congrArg (fun v => v.get g) c), e.2.1.trans (congrArg (fun v => v.get g) m), ?_,
    testWaitList_notWaiting _ g h'⟩
  exact e.2.2.trans (congrArg (fun v => v.get g) s.evalLoad_bookings)

/-- R59, R71: an arc goes out: its monitor is DARK, its booking NONE, and its channel is as it was. -/
theorem State.goDark_own (g : Gantry) (h : s.NotWaiting g) : (s.goDark g).channel g = s.channel g ∧
    (s.goDark g).monitor g = (s.monitor g).toDark ∧ (s.goDark g).booking g = ⟨.none, 0⟩ ∧ (s.goDark g).NotWaiting g := by
  unfold State.goDark State.releaseBooking
  dsimp only
  generalize hu : (if (s.monitor g).heightHold = true then (s.tellGantry g .torchOff).tellGantry g (.heightHold false)
    else s.tellGantry g .torchOff) = u
  have hc : u.channels = s.channels := by rw [← hu]; split <;> rfl
  have hm : u.monitors = s.monitors := by rw [← hu]; split <;> rfl
  have hb : u.budget = s.budget := by rw [← hu]; split <;> rfl
  have hw : ((u.modMonitor g Monitor.toDark).setBooking g ⟨.none, 0⟩).NotWaiting g := by
    intro w hw
    have hw' : w ∈ u.budget.waitList := hw
    rw [hb] at hw'
    exact h w hw'
  obtain ⟨e1, e2, e3, e4⟩ := afterDecrease_other _ g hw
  refine ⟨e1.trans (congrArg (fun v => v.get g) hc), e2.trans ?_, e3.trans ?_, e4⟩
  · show (put u.monitors g (u.monitors.get g).toDark).get g = _
    rw [get_put, if_pos rfl, hm]
    rfl
  · show (put _ _ _).get _ = _
    rw [get_put, if_pos rfl]

/-- R59: after a put-out where the arc is lit, it is DARK, and the channel is as it was. -/
theorem State.putOutIfLit_own (g : Gantry) (h : (s.monitor g).arc ≠ .dark → s.NotWaiting g) :
    (s.putOutIfLit g).channel g = s.channel g ∧ ((s.putOutIfLit g).monitor g).arc = .dark ∧
      ((s.monitor g).arc = .dark → s.putOutIfLit g = s) := by
  unfold State.putOutIfLit
  split
  · rename_i hl
    have hl' : (s.monitor g).arc ≠ .dark := by simpa [State.lit, Monitor.lit] using hl
    obtain ⟨e1, e2, -, -⟩ := goDark_own s g (h hl')
    refine ⟨e1, ?_, fun hd => absurd hd hl'⟩
    exact (congrArg (·.arc) e2 :)
  · rename_i hl
    exact ⟨rfl, by simpa [State.lit, Monitor.lit] using hl, fun _ => rfl⟩

/-- R74: a channel's entry leaves the list: the channel and its monitor are as they were. -/
theorem State.removeWaiter_own (g : Gantry) : (s.removeWaiter g).channel g = s.channel g ∧
    (s.removeWaiter g).monitor g = s.monitor g ∧ (s.removeWaiter g).NotWaiting g := by
  unfold State.removeWaiter
  split
  · have hw : (s.modBudget (fun b => { b with waitList := b.waitList.filter (fun w => w.channel != g) })).NotWaiting g := by
      intro w hw
      have : w ∈ s.budget.waitList.filter (fun w => w.channel != g) := hw
      simpa using (List.mem_filter.mp this).2
    obtain ⟨e1, e2, -⟩ := testWaitList_other _ g hw
    exact ⟨e1, e2, testWaitList_notWaiting _ g hw⟩
  · rename_i h
    refine ⟨rfl, rfl, fun w hw hg => h ?_⟩
    exact List.any_eq_true.mpr ⟨w, hw, by simpa using hg⟩

/-- R35, R90: what the settling of a MARK makes of its channel. -/
theorem State.settleMark_own (g : Gantry) : (s.settleMark g).channel g =
    match (s.channel g).inProgress with
    | .mark .. => { s.channel g with stepsDone := bump (s.channel g).stepsDone, inProgress := .none }
    | _ => s.channel g := by
  have h : ∀ u : State, u.channels = s.channels → (u.markDone g).channel g =
      { s.channel g with stepsDone := bump (s.channel g).stepsDone, inProgress := .none } := by
    intro u hu
    unfold State.markDone State.setInProgress State.stepDone
    rw [modChannel_channel_same, modChannel_channel_same, show u.channel g = s.channel g from congrArg (fun v => v.get g) hu]
  unfold State.settleMark
  cases (s.channel g).inProgress with
  | mark x y part height current setpoint stage =>
    refine h _ ?_
    cases stage with
    | writing record => exact settleTrace_changes s _ _ .channels (by decide)
    | positioning => exact traceWithoutSerial_changes s _ _ _ .channels (by decide)
    | striking => exact traceWithoutSerial_changes s _ _ _ .channels (by decide)
  | _ => rfl

/-- R39: what a hold leaves of its channel and its arc. -/
theorem State.holdChannel_own (g : Gantry) (cause : HeldCause) (h : (s.monitor g).arc ≠ .dark → s.NotWaiting g) :
    (∃ n, (s.holdChannel g cause).channel g = { s.channel g with
      state := .held
      heldCause := some cause
      haltTimer := some 1000
      dwellTimer := none
      checkTimer := none
      reentry := (s.channel g).reentry || ((s.monitor g).arc != .dark && (s.channel g).litForCutting)
      inProgress := (match (s.channel g).inProgress with | .mark .. => .none | p => p)
      stepsDone := n }) ∧
      ((s.holdChannel g cause).monitor g).arc = .dark ∧ (s.holdChannel g cause).NotWaiting g := by
  unfold State.holdChannel
  dsimp only
  generalize hu : (s.tellGantry g .halt).modChannel g (fun c => { c with haltTimer := some Config.haltTime }) = u
  have hc : u.channel g = { s.channel g with haltTimer := some Config.haltTime } := by
    rw [← hu, modChannel_channel_same]
    rfl
  have hm : u.monitor g = s.monitor g := by rw [← hu]; rfl
  have hb : u.budget = s.budget := by rw [← hu]; rfl
  have hl : (u.lit g && (u.channel g).litForCutting) = ((s.monitor g).arc != .dark && (s.channel g).litForCutting) := by
    rw [hc]
    unfold State.lit
    rw [hm]
    rfl
  rw [hl]
  have hn : (u.monitor g).arc ≠ .dark → u.NotWaiting g := by
    rw [hm]
    unfold State.NotWaiting
    rw [hb]
    exact h
  obtain ⟨p1, p2, -⟩ := putOutIfLit_own u g hn
  generalize hv : (u.putOutIfLit g).modChannel g (fun c =>
    { c with reentry := c.reentry || ((s.monitor g).arc != .dark && (s.channel g).litForCutting) }) = v
  have hcv : v.channel g = { s.channel g with
      haltTimer := some Config.haltTime
      reentry := (s.channel g).reentry || ((s.monitor g).arc != .dark && (s.channel g).litForCutting) } := by
    rw [← hv, modChannel_channel_same, p1, hc]
  have hmv : (v.monitor g).arc = .dark := by rw [← hv]; exact p2
  obtain ⟨r1, r2, r3⟩ := removeWaiter_own v g
  generalize hw : (v.removeWaiter g).modChannel g (fun c => { c with dwellTimer := none, checkTimer := none }) = w
  have hcw : w.channel g = { s.channel g with
      haltTimer := some Config.haltTime
      dwellTimer := none
      checkTimer := none
      reentry := (s.channel g).reentry || ((s.monitor g).arc != .dark && (s.channel g).litForCutting) } := by
    rw [← hw, modChannel_channel_same, r1, hcv]
  have hmw : (w.monitor g).arc = .dark := by rw [← hw]; exact (congrArg (·.arc) r2).trans hmv
  have hbw : w.NotWaiting g := by rw [← hw]; exact r3
  have sm := settleMark_own w g
  have smm : (w.settleMark g).monitors = w.monitors := settleMark_changes w g .monitors (by decide)
  have smb : (w.settleMark g).budget = w.budget := settleMark_changes w g .budget (by decide)
  have e : ((((w.settleMark g).modChannel g (fun c => { c with state := .held, heldCause := some cause })).mark
      (.channelEvent g)).channel g) = { (w.settleMark g).channel g with state := .held, heldCause := some cause } := by
    exact modChannel_channel_same (w.settleMark g) g (fun c => { c with state := .held, heldCause := some cause })
  refine ⟨?_, ?_, ?_⟩
  · rw [e, sm, hcw]
    cases hp : (s.channel g).inProgress <;> simp only [hp] <;>
      first
      | exact ⟨(s.channel g).stepsDone, rfl⟩
      | exact ⟨bump (s.channel g).stepsDone, rfl⟩
  · show ((w.settleMark g).monitors.get g).arc = _
    rw [smm]
    exact hmw
  · intro x hx
    have hx' : x ∈ (w.settleMark g).budget.waitList := hx
    rw [smb] at hx'
    exact hbw x hx'

theorem State.holdChannel_proceeds (g : Gantry) (cause : HeldCause) : s.Proceeds (s.holdChannel g cause) := by
  unfold State.holdChannel
  dsimp only
  refine .trans (.trans ?_ (modChannel_changes _ g _).proceeds) (mark_proceeds _ _)
  refine .trans (.trans ?_ (modChannel_changes _ g _).proceeds) (settleMark_proceeds _ g)
  refine .trans (.trans ?_ (modChannel_changes _ g _).proceeds) (removeWaiter_proceeds _ g)
  refine .trans (.trans ?_ (modChannel_changes _ g _).proceeds) (putOutIfLit_proceeds _ g)
  exact tellGantry_proceeds s g .halt

end Sys2Proof.Machine
end

