-- ==== Sys2Proof/Laws/Requests.lean ====
section
/-! SUPPORT. How a request is answered, said once: with room, of a wrong length, and as an overrun. -/

namespace Sys2Proof.Machine

variable (s : State)

@[simp] theorem State.taken_hall : s.taken.hall = s.hall := rfl
@[simp] theorem State.taken_lines : s.taken.lines = s.lines := rfl
@[simp] theorem State.taken_bayTable : s.taken.bayTable = s.bayTable := rfl
@[simp] theorem State.taken_channels : s.taken.channels = s.channels := rfl
@[simp] theorem State.taken_monitors : s.taken.monitors = s.monitors := rfl
@[simp] theorem State.taken_budget : s.taken.budget = s.budget := rfl
@[simp] theorem State.taken_composer : s.taken.composer = s.composer := rfl
@[simp] theorem State.taken_remnants : s.taken.remnants = s.remnants := rfl
@[simp] theorem State.taken_dispatcher : s.taken.dispatcher = s.dispatcher := rfl
@[simp] theorem State.taken_cranes : s.taken.cranes = s.cranes := rfl
@[simp] theorem State.taken_sent : s.taken.sent = s.sent := rfl
@[simp] theorem State.taken_pending : s.taken.pending = s.pending := rfl
@[simp] theorem State.taken_notices : s.taken.link.notices = s.link.notices := rfl
@[simp] theorem State.taken_replies : s.taken.link.replies = s.link.replies := rfl
@[simp] theorem State.taken_silent : s.taken.link.silent = false := rfl

variable {s}

/-- A request that finds room and has its length: its rule acts on the state that has taken its frame, its reply is queued, and
the dispatch pass it called for is run. -/
theorem State.serve_open (h : s.HasReplyRoom) (typ tag : Byte) (act : State → Answer) :
    s.serve typ tag true act =
      ((act s.taken).state.queueReply (reply typ tag (act s.taken).code (act s.taken).values)).runDuePass := by
  have h' : ¬ Config.replyQueueSize ≤ s.hostFrameTaken.link.replies.length := Nat.not_le.mpr h
  simp only [State.serve, if_neg h', if_true]
  rfl

/-- A request of a wrong length is answered BAD_LENGTH. -/
theorem State.serve_wrong_length (h : s.Open) (typ tag : Byte) (act : State → Answer) :
    s.serve typ tag false act = s.answered (reply typ tag .badLength []) := by
  have h' : ¬ Config.replyQueueSize ≤ s.hostFrameTaken.link.replies.length := Nat.not_le.mpr h.room
  simp only [State.serve, if_neg h']
  exact State.runDuePass_of_settled _ h.settled

/-- A request with four replies queued is an overrun. -/
theorem State.serve_overrun (h : 4 ≤ s.link.replies.length) (typ tag : Byte) (fits : Bool) (act : State → Answer) :
    s.serve typ tag fits act = s.taken.modStats (fun t => { t with overruns := bump t.overruns }) := by
  have h' : Config.replyQueueSize ≤ s.hostFrameTaken.link.replies.length := h
  simp only [State.serve, if_pos h']
  rfl

/-- A rule that answers without an effect. -/
theorem State.serve_answered (h : s.Open) (typ tag : Byte) (act : State → Answer) {code : ResultCode} {values : List Byte}
    (ha : act s.taken = ⟨s.taken, code, values⟩) :
    s.serve typ tag true act = s.answered (reply typ tag code values) := by
  rw [State.serve_open h.room, ha]
  exact State.runDuePass_of_settled _ h.settled

/-- A rule whose effect calls for no dispatch pass. -/
theorem State.serve_quiet (h : s.HasReplyRoom) (typ tag : Byte) (act : State → Answer)
    (hq : (act s.taken).state.dispatcher.passDue = false) :
    s.serve typ tag true act =
      (act s.taken).state.queueReply (reply typ tag (act s.taken).code (act s.taken).values) := by
  rw [State.serve_open h]
  exact State.runDuePass_of_settled _ hq

/-- What a request changes: what its rule changes, the link, and what a dispatch pass changes. -/
theorem State.serve_changes (typ tag : Byte) (fits : Bool) (act : State → Answer) {ps : List Part}
    (ha : ∀ u : State, u.ChangesOnly ps (act u).state) :
    s.ChangesOnly (linkParts ++ ps ++ dispatchParts) (s.serve typ tag fits act) := by
  have sub : ∀ p ∈ ps, p ∈ linkParts ++ ps ++ dispatchParts := fun p hp => by simp [hp]
  have hl : ∀ p ∈ linkParts, p ∈ linkParts ++ ps ++ dispatchParts := fun p hp => by simp [hp]
  have hd : ∀ p ∈ dispatchParts, p ∈ linkParts ++ ps ++ dispatchParts := fun p hp => by simp [hp]
  have h0 : s.ChangesOnly (linkParts ++ ps ++ dispatchParts) s.hostFrameTaken :=
    (State.hostFrameTaken_changes s).weaken hl
  have hlink : ∀ p ∈ [Part.link], p ∈ linkParts ++ ps ++ dispatchParts := fun p hp => hl p (by
    simp only [List.mem_singleton] at hp; subst hp; simp [linkParts])
  unfold State.serve
  dsimp only
  split
  · exact h0.trans ((State.modStats_changes _ _).weaken hlink)
  · refine h0.trans (.trans ?_ ((State.runDuePass_changes _).weaken hd))
    split
    · exact ((ha _).weaken sub).trans ((State.queueReply_changes _ _).weaken hlink)
    · exact (State.queueReply_changes _ _).weaken hlink

end Sys2Proof.Machine
end

