-- ==== Sys2Proof/Laws/Hall.lean ====
section
/-! SUPPORT. What a change of hall state leaves: the hall record, the gate, the HALL class; and the requests whose dispatch pass finds
the hall not working. -/

namespace Sys2Proof.Machine

open State

set_option Elab.async false

variable (s : State)

/-- R158: the hall record after its entry into a state. -/
theorem State.setHallRecord_hall (state : HallState) (cause : HallCause) :
    (s.setHallRecord state cause).hall = s.hall.entering state cause := by
  unfold State.setHallRecord
  dsimp only
  split <;> rfl

/-- R158: a change of hall state marks HALL. -/
theorem State.setHallRecord_marks (state : HallState) (cause : HallCause) (h : s.hall.state ≠ state) :
    ((s.setHallRecord state cause).notice .hall).pending = true := by
  unfold State.setHallRecord
  dsimp only
  rw [if_pos (by simp [h])]
  exact mark_sets_pending _ _

theorem State.changeHall_marks (state : HallState) (cause : HallCause) (h : s.hall.state ≠ state) :
    ((s.changeHall state cause).notice .hall).pending = true := by
  unfold State.changeHall
  dsimp only
  have k : ((((s.setHallRecord state cause).setHallGate state.gateCause).hallCranes s.hall.state state).notice .hall).pending =
      true :=
    (hallCranes_proceeds _ _ _).pending _ ((setHallGate_proceeds _ _).pending _ (setHallRecord_marks s state cause h))
  split
  · exact (runDuePass_proceeds _).pending _ k
  · exact k

/-- R158: nothing that follows the entry changes the hall record. -/
theorem State.changeHall_hall (state : HallState) (cause : HallCause) :
    (s.changeHall state cause).hall = s.hall.entering state cause := by
  unfold State.changeHall
  dsimp only
  have k : (((s.setHallRecord state cause).setHallGate state.gateCause).hallCranes s.hall.state state).hall =
      s.hall.entering state cause :=
    (hallCranes_changes _ _ _ .hall (by decide)).trans
      ((setHallGate_changes _ _ .hall (by decide)).trans (setHallRecord_hall _ _ _))
  split
  · exact (runDuePass_changes _ .hall (by decide)).trans k
  · exact k

/-- R127: PURGE and RUN are entered with no dispatch pass owed. -/
theorem State.changeHall_settled (state : HallState) (cause : HallCause) (h : (s.changeHall state cause).hallWorks = true) :
    (s.changeHall state cause).dispatcher.passDue = false := by
  unfold State.changeHall at *
  dsimp only at *
  split at h
  · rw [if_pos (by assumption)]
    exact runDuePass_settled _
  · rename_i h'
    exact absurd h h'

/-- R72: a hall state that closes the gate changes the cause set, and no booking. -/
theorem State.changeHall_budget (state : HallState) (cause : HallCause) (k : HallGateCause) (hk : state.gateCause = some k) :
    (s.changeHall state cause).budget = { s.budget with
      causes := { s.budget.causes with hall := some k }
      gateClosings := (s.changeHall state cause).budget.gateClosings } := by
  have e : (s.changeHall state cause).budget = ((s.setHallRecord state cause).setCauses
      { (s.setHallRecord state cause).budget.causes with hall := some k }).budget := by
    unfold State.changeHall
    dsimp only
    have k' : (((s.setHallRecord state cause).setHallGate state.gateCause).hallCranes s.hall.state state).budget =
        ((s.setHallRecord state cause).setCauses { (s.setHallRecord state cause).budget.causes with hall := some k }).budget :=
      (hallCranes_changes _ _ _ .budget (by decide)).trans (by rw [hk, setHallGate_some])
    split
    · exact (runDuePass_changes _ .budget (by decide)).trans k'
    · exact k'
  have b : (s.setHallRecord state cause).budget = s.budget := setHallRecord_changes _ _ _ .budget (by decide)
  rw [e, setCauses_budget, b]

/-- R160: PAUSE touches the hall, the gate and the notices alone. -/
theorem State.changeHall_pause_changes (cause : HallCause) (h : s.hall.state ≠ .park) :
    s.ChangesOnly [.hall, .notices, .budget] (s.changeHall .pause cause) := by
  unfold State.changeHall
  dsimp only
  have e : ∀ u : State, u.hallCranes s.hall.state .pause = u := by
    intro u
    unfold State.hallCranes
    rw [if_neg (by decide), if_neg h]
  rw [e]
  have hh : ((s.setHallRecord .pause cause).setHallGate HallState.pause.gateCause).hall.state = .pause := by
    rw [setHallGate_changes _ _ .hall (by decide), setHallRecord_hall]
    rfl
  rw [if_neg (by simp [State.hallWorks, hh]), show HallState.pause.gateCause = some .pause from rfl, setHallGate_some]
  exact .start (setHallRecord_changes _ _ _) (setCauses_changes _ _)

theorem State.changeHall_park_changes (cause : HallCause) :
    s.ChangesOnly [.hall, .notices, .budget, .cranes, .passDue, .sent] (s.changeHall .park cause) := by
  unfold State.changeHall
  dsimp only
  have hh : (((s.setHallRecord .park cause).setHallGate HallState.park.gateCause).hallCranes s.hall.state .park).hall.state =
      .park := by
    rw [hallCranes_changes _ _ _ .hall (by decide), setHallGate_changes _ _ .hall (by decide), setHallRecord_hall]
    rfl
  rw [if_neg (by simp [State.hallWorks, hh]), show HallState.park.gateCause = some .park from rfl, setHallGate_some]
  exact .andThen (.start (setHallRecord_changes _ _ _) (setCauses_changes _ _)) (hallCranes_changes _ _ _)

/-- A hall state that does not work is entered once. -/
theorem State.enterHall_eq (state : HallState) (cause : HallCause) (h : state = .park ∨ state = .pause) :
    s.enterHall state cause = s.changeHall state cause := by
  unfold State.enterHall
  dsimp only
  rw [if_neg]
  have e : (s.changeHall state cause).hall.state = state := by
    rw [changeHall_hall]
    rfl
  rcases h with h | h <;> subst h <;> simp [State.hallWorks, e]

/-- R127: a dispatch pass in a hall that does not work dispatches nothing. -/
theorem State.runDuePass_idle (h : s.hallWorks = false) :
    s.runDuePass = s.modDispatcher (fun d => { d with passDue := false }) := by
  unfold State.runDuePass State.dispatchPass
  split
  · have h' : ¬ (s.modDispatcher (fun d => { d with passDue := false })).hallWorks = true := by
      show ¬ s.hallWorks = true
      simp [h]
    rw [if_neg h']
    rfl
  · rename_i h'
    have e : s.dispatcher.passDue = false := by simpa using h'
    show s = { s with dispatcher := _ }
    rw [← e]

/-- R127: a dispatch pass that finds nothing to do. -/
theorem State.runDuePass_nothing (h : s.NothingToDispatch) :
    s.runDuePass = s.modDispatcher (fun d => { d with passDue := false }) := by
  rcases h with h | h | ⟨hu, hn⟩
  · exact runDuePass_idle s (by simp [State.hallWorks, h])
  · exact runDuePass_idle s (by simp [State.hallWorks, h])
  · have e : ∀ u : State, u.dispatcher.urgent = [] → u.dispatcher.normal = [] → u.dispatchPass = u := by
      intro u hu hn
      unfold State.dispatchPass
      split
      · unfold State.passN State.chooseOrder State.oldestEligible
        simp [hu, hn]
      · rfl
    unfold State.runDuePass
    split
    · rw [e (s.modDispatcher (fun d => { d with passDue := false })) hu hn]
      rfl
    · rename_i h'
      have e' : s.dispatcher.passDue = false := by simpa using h'
      show s = { s with dispatcher := _ }
      rw [← e']

variable {s}

/-- An accepted request that calls for no dispatch pass. -/
theorem State.serve_ok {t : State} (ho : s.HasReplyRoom) (typ tag : Byte) {fits : Bool} {act : State → Answer} {values : List Byte}
    (hf : fits = true) (ha : act s.taken = .ok t values) (hd : t.dispatcher.passDue = false) :
    s.serve typ tag fits act = t.queueReply (reply typ tag .ok values) := by
  subst hf
  rw [serve_quiet ho _ _ _ (by rw [ha]; exact hd), ha]
  rfl

/-- A refused request. -/
theorem State.serve_refused (ho : s.Open) (typ tag : Byte) {fits : Bool} {act : State → Answer} {code : ResultCode}
    (hf : fits = true) (ha : act s.taken = .refuse s.taken code) :
    s.serve typ tag fits act = s.answered (reply typ tag code []) := by
  subst hf
  exact serve_answered ho _ _ _ ha

/-- An accepted request whose hall does not work. -/
theorem State.serve_idle {t : State} (ho : s.HasReplyRoom) (typ tag : Byte) {fits : Bool} {act : State → Answer}
    {values : List Byte} (hf : fits = true) (ha : act s.taken = .ok t values) (hw : t.hallWorks = false) :
    s.serve typ tag fits act =
      (t.modDispatcher (fun d => { d with passDue := false })).queueReply (reply typ tag .ok values) := by
  subst hf
  rw [serve_open ho, ha]
  exact runDuePass_idle (t.queueReply (reply typ tag .ok values)) hw

/-- A reply queued on a state whose link and receivers are those of the frame taken. -/
theorem State.replied_of {t : State} {ps : List Part} (f : Frame) (h : s.taken.ChangesOnly ps t) (hl : Part.link ∉ ps)
    (hr : Part.receivers ∉ ps) : s.Replied (t.queueReply f) f := by
  refine ⟨?_, h .receivers hr⟩
  show { t.link with replies := t.link.replies ++ [f] } = _
  rw [show t.link = _ from h .link hl]
  rfl

end Sys2Proof.Machine
end

