-- ==== Sys2Proof/Laws/PerInstr.lean ====
section
/-! SUPPORT. What holds of every command as syntax: the frame it arrives in fits the envelope of R167. -/

namespace Sys2Proof.Laws.Envelope

/-- R167: the frame that a well-formed command arrives in, if any, opens with the lead byte, carries a length of 2..254 and is seven
bytes longer than its body. -/
def Statement (i : Instr) : Prop :=
  i.wf = true → ∀ p f, commandFrame i = some (p, f) →
    f.bytes.head? = some 0xA5 ∧ f.bytes.length = f.body.length + 7 ∧ lengthIsBad (f.bytes.getD 1 0) (f.bytes.getD 2 0) = false

/-- A body that fits gives a frame that fits. -/
theorem of_body (f : Frame) (h : f.body.length ≤ 252) : f.bytes.head? = some 0xA5 ∧ f.bytes.length = f.body.length + 7 ∧
    lengthIsBad (f.bytes.getD 1 0) (f.bytes.getD 2 0) = false := by
  refine ⟨rfl, ?_, ?_⟩
  · simp [Frame.bytes, Frame.covered, Machine.toBytes_length]
    omega
  · have e : ofBytes (toBytes 2 (f.body.length + 2)) = f.body.length + 2 := Machine.ofBytes_toBytes 2 _ (by omega)
    have e' : ofBytes [f.bytes.getD 1 0, f.bytes.getD 2 0] = f.body.length + 2 := e
    unfold lengthIsBad
    rw [e']
    simp
    omega

theorem of_wf (i : Instr) : Statement i := by
  intro hw p f hf
  refine of_body f ?_
  have h : frameFits i = true := by
    unfold Instr.wf at hw
    exact (Bool.and_eq_true _ _ ▸ hw).1
  unfold frameFits at h
  rw [hf] at h
  simpa [bodyFits] using h

theorem powerOn (straps : LinkRate) : Statement (.powerOn straps) := of_wf _
theorem resetPin (straps : LinkRate) : Statement (.resetPin straps) := of_wf _
theorem identify (tag : Byte) (body : List Byte) : Statement (.identify tag body) := of_wf _
theorem linkStatus (tag : Byte) (body : List Byte) : Statement (.linkStatus tag body) := of_wf _
theorem noticeMask (tag : Byte) (body : List Byte) : Statement (.noticeMask tag body) := of_wf _
theorem noticeClear (tag : Byte) (body : List Byte) : Statement (.noticeClear tag body) := of_wf _
theorem hallStatus (tag : Byte) (body : List Byte) : Statement (.hallStatus tag body) := of_wf _
theorem hallRun (tag : Byte) (body : List Byte) : Statement (.hallRun tag body) := of_wf _
theorem hallPause (tag : Byte) (body : List Byte) : Statement (.hallPause tag body) := of_wf _
theorem hallPark (tag : Byte) (body : List Byte) : Statement (.hallPark tag body) := of_wf _
theorem hallWake (tag : Byte) (body : List Byte) : Statement (.hallWake tag body) := of_wf _
theorem hallReset (tag : Byte) (body : List Byte) : Statement (.hallReset tag body) := of_wf _
theorem hallSet (tag : Byte) (body : List Byte) : Statement (.hallSet tag body) := of_wf _
theorem lineSet (tag : Byte) (body : List Byte) : Statement (.lineSet tag body) := of_wf _
theorem lineStatus (tag : Byte) (body : List Byte) : Statement (.lineStatus tag body) := of_wf _
theorem lineClear (tag : Byte) (body : List Byte) : Statement (.lineClear tag body) := of_wf _
theorem bayStatus (tag : Byte) (body : List Byte) : Statement (.bayStatus tag body) := of_wf _
theorem bayDeclare (tag : Byte) (body : List Byte) : Statement (.bayDeclare tag body) := of_wf _
theorem bayAccept (tag : Byte) (body : List Byte) : Statement (.bayAccept tag body) := of_wf _
theorem bayClear (tag : Byte) (body : List Byte) : Statement (.bayClear tag body) := of_wf _
theorem readerSet (tag : Byte) (body : List Byte) : Statement (.readerSet tag body) := of_wf _
theorem placesSet (tag : Byte) (body : List Byte) : Statement (.placesSet tag body) := of_wf _
theorem steps (tag : Byte) (body : List Byte) : Statement (.steps tag body) := of_wf _
theorem start (tag : Byte) (body : List Byte) : Statement (.start tag body) := of_wf _
theorem hold (tag : Byte) (body : List Byte) : Statement (.hold tag body) := of_wf _
theorem resume (tag : Byte) (body : List Byte) : Statement (.resume tag body) := of_wf _
theorem stop (tag : Byte) (body : List Byte) : Statement (.stop tag body) := of_wf _
theorem flush (tag : Byte) (body : List Byte) : Statement (.flush tag body) := of_wf _
theorem channelStatus (tag : Byte) (body : List Byte) : Statement (.channelStatus tag body) := of_wf _
theorem arcSet (tag : Byte) (body : List Byte) : Statement (.arcSet tag body) := of_wf _
theorem arcStatus (tag : Byte) (body : List Byte) : Statement (.arcStatus tag body) := of_wf _
theorem budgetSet (tag : Byte) (body : List Byte) : Statement (.budgetSet tag body) := of_wf _
theorem budgetStatus (tag : Byte) (body : List Byte) : Statement (.budgetStatus tag body) := of_wf _
theorem heatOpen (tag : Byte) (body : List Byte) : Statement (.heatOpen tag body) := of_wf _
theorem heatClose (tag : Byte) (body : List Byte) : Statement (.heatClose tag body) := of_wf _
theorem heatReopen (tag : Byte) (body : List Byte) : Statement (.heatReopen tag body) := of_wf _
theorem heatDrop (tag : Byte) (body : List Byte) : Statement (.heatDrop tag body) := of_wf _
theorem heatStatus (tag : Byte) (body : List Byte) : Statement (.heatStatus tag body) := of_wf _
theorem traceRead (tag : Byte) (body : List Byte) : Statement (.traceRead tag body) := of_wf _
theorem remnantAdd (tag : Byte) (body : List Byte) : Statement (.remnantAdd tag body) := of_wf _
theorem remnantFromBay (tag : Byte) (body : List Byte) : Statement (.remnantFromBay tag body) := of_wf _
theorem remnantReserve (tag : Byte) (body : List Byte) : Statement (.remnantReserve tag body) := of_wf _
theorem remnantUnreserve (tag : Byte) (body : List Byte) : Statement (.remnantUnreserve tag body) := of_wf _
theorem remnantRenew (tag : Byte) (body : List Byte) : Statement (.remnantRenew tag body) := of_wf _
theorem remnantRead (tag : Byte) (body : List Byte) : Statement (.remnantRead tag body) := of_wf _
theorem remnantFind (tag : Byte) (body : List Byte) : Statement (.remnantFind tag body) := of_wf _
theorem remnantSet (tag : Byte) (body : List Byte) : Statement (.remnantSet tag body) := of_wf _
theorem remnantDrop (tag : Byte) (body : List Byte) : Statement (.remnantDrop tag body) := of_wf _
theorem orderSubmit (tag : Byte) (body : List Byte) : Statement (.orderSubmit tag body) := of_wf _
theorem orderCancel (tag : Byte) (body : List Byte) : Statement (.orderCancel tag body) := of_wf _
theorem orderRedirect (tag : Byte) (body : List Byte) : Statement (.orderRedirect tag body) := of_wf _
theorem orderStatus (tag : Byte) (body : List Byte) : Statement (.orderStatus tag body) := of_wf _
theorem craneStatus (tag : Byte) (body : List Byte) : Statement (.craneStatus tag body) := of_wf _
theorem craneResume (tag : Byte) (body : List Byte) : Statement (.craneResume tag body) := of_wf _
theorem craneClear (tag : Byte) (body : List Byte) : Statement (.craneClear tag body) := of_wf _
theorem craneSet (tag : Byte) (body : List Byte) : Statement (.craneSet tag body) := of_wf _
theorem unknownTypeRequest (typ : Byte) (tag : Byte) (body : List Byte) : Statement (.unknownTypeRequest typ tag body) := of_wf _
theorem invalidFrame (port : Port) (why : FrameError) : Statement (.invalidFrame port why) := of_wf _
theorem frameGapTimeout (port : Port) : Statement (.frameGapTimeout port) := of_wf _
theorem sendReply : Statement (.sendReply) := of_wf _
theorem sendNotice : Statement (.sendNotice) := of_wf _
theorem transmitFrameEnd : Statement (.transmitFrameEnd) := of_wf _
theorem linkSilence : Statement (.linkSilence) := of_wf _
theorem summaryTimerExpiry : Statement (.summaryTimerExpiry) := of_wf _
theorem purgeTimerExpiry : Statement (.purgeTimerExpiry) := of_wf _
theorem lineInputChange (line : LineIx) (level : Level) : Statement (.lineInputChange line level) := of_wf _
theorem lineFilterExpiry (line : LineIx) : Statement (.lineFilterExpiry line) := of_wf _
theorem gantryDone (g : Gantry) (seq : Byte) : Statement (.gantryDone g seq) := of_wf _
theorem gantryHalted (g : Gantry) (x : BitVec 32) (y : BitVec 16) : Statement (.gantryHalted g x y) := of_wf _
theorem gantrySample (g : Gantry) (voltage : BitVec 16) : Statement (.gantrySample g voltage) := of_wf _
theorem gantryRead (g : Gantry) (bay : Byte) (chars : List Byte) : Statement (.gantryRead g bay chars) := of_wf _
theorem gantryStatus (g : Gantry) (code : Byte) : Statement (.gantryStatus g code) := of_wf _
theorem gantryStrayFrame (g : Gantry) (typ : Byte) (body : List Byte) : Statement (.gantryStrayFrame g typ body) := of_wf _
theorem gantrySilenceTimeout (g : Gantry) : Statement (.gantrySilenceTimeout g) := of_wf _
theorem haltTimerExpiry (g : Gantry) : Statement (.haltTimerExpiry g) := of_wf _
theorem dwellTimerExpiry (g : Gantry) : Statement (.dwellTimerExpiry g) := of_wf _
theorem checkTimerExpiry (g : Gantry) : Statement (.checkTimerExpiry g) := of_wf _
theorem strikeTimerExpiry (g : Gantry) : Statement (.strikeTimerExpiry g) := of_wf _
theorem cranePortStatus (c : CraneId) (position : BitVec 32) (hook : Byte) (code : Byte) : Statement (.cranePortStatus c position hook code) := of_wf _
theorem arrived (c : CraneId) (position : BitVec 32) : Statement (.arrived c position) := of_wf _
theorem picked (c : CraneId) : Statement (.picked c) := of_wf _
theorem setDown (c : CraneId) : Statement (.setDown c) := of_wf _
theorem craneStrayFrame (c : CraneId) (typ : Byte) (body : List Byte) : Statement (.craneStrayFrame c typ body) := of_wf _
theorem craneSilenceTimeout (c : CraneId) : Statement (.craneSilenceTimeout c) := of_wf _
theorem hoistTimerExpiry (c : CraneId) : Statement (.hoistTimerExpiry c) := of_wf _
theorem orderPromotion (number : Nat) : Statement (.orderPromotion number) := of_wf _
theorem agingTimerExpiry : Statement (.agingTimerExpiry) := of_wf _
theorem receiveByte (port : Port) (byte : Byte) : Statement (.receiveByte port byte) := of_wf _

end Sys2Proof.Laws.Envelope
end

