-- ==== Sys2Proof/Laws/Reports.lean ====
section
/-! SUPPORT. What the requests about orders and cranes and the reports of the cranes leave as it was: one lemma per operation. -/

namespace Sys2Proof.Machine

open State

set_option Elab.async false

variable (s : State)

theorem State.cancelOrder_changes (o : Order) : s.ChangesOnly orderParts (s.cancelOrder o) := by
  unfold State.cancelOrder
  dsimp only
  have h : s.ChangesOnly orderParts (s.endUndone o .cancelled .host) := (endUndone_changes _ _ _ _).weaken
  split
  · exact (h.andThen (tellCrane_changes _ _ _)).andThen (becomeIdle_changes _ _)
  · exact h

theorem State.redirect_changes (o : Order) (c : CraneId) (dest : Site) : s.ChangesOnly orderParts (s.redirect o c dest) := by
  unfold State.redirect
  dsimp only
  have h : s.ChangesOnly orderParts (((s.releaseDest o).claimDest dest o.number).modOrder o.number (fun o => { o with dest })) :=
    ((releaseDest_changes _ _).weaken.andThen (claimDest_changes _ _ _)).andThen (modOrder_changes _ _ _)
  have h2 : ∀ (u : State) (y : SpanOutcome), u.ChangesOnly orderParts
      (match y with | .yields position => u.sendYield c.other position | _ => u) := by
    intro u y
    split
    · exact (sendYield_changes _ _ _).weaken
    · exact .refl
  exact (((h.trans (h2 _ _)).andThen (modCrane_changes _ _ _)).andThen (recompute_changes _ _)).andThen (mark_changes _ _)

theorem State.resumeEmpty_changes (c : CraneId) : s.ChangesOnly motionParts (s.resumeEmpty c) := by
  unfold State.resumeEmpty
  split
  · exact (restCrane_changes _ _ _).weaken
  · exact (becomeIdle_changes _ _).weaken

theorem State.resumePhase_changes (c : CraneId) (o : Order) (p : Phase) :
    s.ChangesOnly (.dispatcher :: motionParts) (s.resumePhase c o p) := by
  unfold State.resumePhase
  dsimp only
  have h : s.ChangesOnly (.dispatcher :: motionParts)
      (s.modOrder o.number (fun o => { o with state := p.state, suspendedPhase := none })) := (modOrder_changes _ _ _).weaken
  cases p
  · exact (h.andThen (travelTo_changes _ _ _)).andThen (recompute_changes _ _)
  · exact h.andThen (hoist_changes _ _ _)
  · exact (h.andThen (travelTo_changes _ _ _)).andThen (recompute_changes _ _)
  · exact h.andThen (beginLowering_changes _ _ _)

theorem State.resumeCrane_changes (c : CraneId) : s.ChangesOnly (.dispatcher :: motionParts) (s.resumeCrane c) := by
  unfold State.resumeCrane
  split
  · exact (resumeEmpty_changes _ _).weaken
  · split
    · exact resumePhase_changes _ _ _ _
    · exact (resumeEmpty_changes _ _).weaken

theorem State.clearCrane_changes (c : CraneId) : s.ChangesOnly orderParts (s.clearCrane c) := by
  unfold State.clearCrane
  dsimp only
  have h : s.ChangesOnly orderParts (s.modCrane c (fun k => { k with withdrawn := false, goal := none })) :=
    (modCrane_changes _ _ _).weaken
  have h2 : ∀ (u : State) (o : Option Order), u.ChangesOnly orderParts
      (match o with | some o => u.endUndone o .failed .cleared | none => u) := by
    intro u o
    split
    · exact (endUndone_changes _ _ _ _).weaken
    · exact .refl
  exact ((h.trans (h2 _ _)).andThen (resumeEmpty_changes _ _)).andThen (callPass_changes _)

theorem State.repark_changes (before : ByCrane Nat) (c : CraneId) : s.ChangesOnly motionParts (s.repark before c) := by
  unfold State.repark
  dsimp only
  split
  · exact (sendToPark_changes _ _).weaken
  · exact .refl

theorem State.setCranes_changes (t : CraneSettings) :
    s.ChangesOnly (.dispatcher :: .settings :: motionParts) (s.setCranes t) := by
  unfold State.setCranes
  dsimp only
  have h : s.ChangesOnly (.dispatcher :: .settings :: motionParts) (s.modDispatcher (fun d => { d with settings := t })) := by
    intro p hp
    cases p <;> first | rfl | exact absurd (by decide) hp
  exact (((h.andThen (repark_changes _ _ .c1)).andThen (repark_changes _ _ .c2)).andThen (promoteDue_changes _)).andThen
    (callPass_changes _)

theorem State.takeStatus_changes (c : CraneId) (position : Nat) (hook code : Byte) :
    s.ChangesOnly (.dispatcher :: motionParts) (s.takeStatus c position hook code) := by
  unfold State.takeStatus
  exact .start (reportPosition_changes _ _ _) (modCrane_changes _ _ _)

theorem State.comeBack_changes (c : CraneId) : s.ChangesOnly motionParts (s.comeBack c) := by
  unfold State.comeBack State.returnStopped
  dsimp only
  split
  · exact (updateCrane_changes _ _ _).weaken
  · split
    · exact (updateCrane_changes _ _ _).weaken
    · split
      · exact (restCrane_changes _ _ _).weaken
      · split
        · exact (updateCrane_changes _ _ _).weaken
        · split
          · exact (restCrane_changes _ _ _).weaken
          · exact (becomeIdle_changes _ _).weaken

theorem State.actOnStatus_changes (c : CraneId) : s.ChangesOnly (.dispatcher :: motionParts) (s.actOnStatus c) := by
  unfold State.actOnStatus
  dsimp only
  split
  · exact (stopCrane_changes _ _ _).weaken
  · split
    · exact (stopCrane_changes _ _ _).weaken
    · split
      · exact (stopCrane_changes _ _ _).weaken
      · exact .refl

theorem State.craneStatusReported_changes (c : CraneId) (position : Nat) (hook code : Byte) :
    s.ChangesOnly (.dispatcher :: motionParts) (s.craneStatusReported c position hook code) := by
  unfold State.craneStatusReported
  dsimp only
  split
  · exact (takeStatus_changes _ _ _ _ _).andThen (comeBack_changes _ _)
  · exact (takeStatus_changes _ _ _ _ _).trans (actOnStatus_changes _ _)

theorem State.arriveForOrder_changes (c : CraneId) : s.ChangesOnly (.dispatcher :: motionParts) (s.arriveForOrder c) := by
  unfold State.arriveForOrder
  split
  · exact .refl
  · split
    · exact .start (modOrder_changes _ _ _) (hoist_changes _ _ _)
    · exact .start (modOrder_changes _ _ _) (beginLowering_changes _ _ _)
    · exact .refl

theorem State.arrivedAt_changes (c : CraneId) (position : Nat) :
    s.ChangesOnly (.dispatcher :: motionParts) (s.arrivedAt c position) := by
  unfold State.arrivedAt
  dsimp only
  have h : s.ChangesOnly (.dispatcher :: motionParts) (s.reportPosition c position) := (reportPosition_changes _ _ _).weaken
  split
  · split
    · split
      · rename_i g _ _
        refine h.trans ?_
        cases g.purpose
        · exact arriveForOrder_changes _ _
        · exact (becomeIdle_changes _ _).weaken
        · exact (restCrane_changes _ _ _).weaken
      · refine h.trans ?_
        unfold State.arriveClipped
        dsimp only
        split
        · exact (updateCrane_changes _ _ _).weaken
        · exact .refl
    · exact h
  · exact h.andThen (craneStray_changes _ _)

theorem State.pickedBy_changes (c : CraneId) : s.ChangesOnly orderParts (s.pickedBy c) := by
  unfold State.pickedBy
  split
  · split
    · exact (lift_changes _ _ _).weaken
    · exact (craneStray_changes _ _).weaken
  · exact (craneStray_changes _ _).weaken

theorem State.setDownBy_changes (c : CraneId) : s.ChangesOnly orderParts (s.setDownBy c) := by
  unfold State.setDownBy
  split
  · split
    · exact (craneStray_changes _ _).weaken
    · split
      · exact (finishSetDown_changes _ _ _).weaken
      · split
        · exact (finishWithdrawal_changes _ _ _).weaken
        · exact (craneStray_changes _ _).weaken
      · exact (craneStray_changes _ _).weaken
  · exact (craneStray_changes _ _).weaken

theorem State.craneLost_changes (c : CraneId) :
    s.ChangesOnly [.dispatcher, .cranes, .notices, .passDue] (s.craneLost c) := by
  unfold State.craneLost
  exact .start (suspendOrder_changes _ _) (updateCrane_changes _ _ _)

theorem State.promotionDue_changes (n : Nat) : s.ChangesOnly [.dispatcher, .passDue] (s.promotionDue n) := by
  unfold State.promotionDue
  split
  · exact (foldl_changes _ _ ageOrder_changes _).andThen (foldl_changes _ _ promote_changes _)
  · exact .refl

end Sys2Proof.Machine
end

