-- ==== Sys2Proof/Tests/Slice0.lean ====
section
/-! SUPPORT. Tests: ill-formed commands refused, the manual's worked values, single steps on small states, and for every statement with
hypotheses a state and operands that meet them, clause by clause. Expected results are the manual's or are worked by hand from it. -/

namespace Sys2Proof.Tests

open Sys2Proof Sys2Proof.Machine

set_option Elab.async false
set_option maxRecDepth 100000

/-! ## Small states -/

/-- The state a command leaves. -/
def after (i : Instr) (s : State) : State :=
  match exec i s with
  | .next t => t
  | _ => s

theorem openAt {s : State} (h : s.link.replies.length < 4 ∧ s.dispatcher.passDue = false) : s.Open := ⟨h.1, h.2⟩

/-- R82's heat K7A20315, with two references. -/
def heatA : Heat := ⟨.active, [0x4B, 0x37, 0x41, 0x32, 0x30, 0x33, 0x31, 0x35], 7, 1, 1, 0, 0, 2⟩

def plateA : Plate := ⟨3, 7, 20, 2000, 6000, none, .matched⟩

/-- Hall RUN with the gate OPEN, heat 3 in use, bay 1 BURNING on channel 1, which is RUNNING with a healthy gantry. -/
def run0 : State :=
  ((((State.reset.modHall (fun h => { h with state := .run, purged := true })).modBudget (fun b =>
    { b with causes := ⟨false, none⟩ })).modComposer (fun c => { c with heats := put c.heats 3 (some heatA) })).modBay 0 (fun k =>
      { k with state := .burning, plate := some plateA })).modChannel 0 (fun c =>
        { c with
          state := .running
          bay := some 0
          path := some ⟨10, 20⟩
          gantryTimer := some 50
          pierceConsumed := true
          nextSeq := 9 })

def chan (s : State) (f : Channel → Channel) : State := s.modChannel 0 f
def arc (s : State) (f : Monitor → Monitor) : State := s.modMonitor 0 f
def crn (s : State) (c : CraneId) (f : Crane → Crane) : State := s.modCrane c f
def inHall (s : State) (x : HallState) : State := s.modHall (fun h => { h with state := x })
def bay0 (s : State) (x : BayState) : State := s.modBay 0 (fun k => { k with state := x })
def busy (s : State) : State := { s with link := { s.link with replies := List.replicate 4 (reply 1 0 .ok []) } }

/-- run0 with its arc STABLE and 100 A booked. -/
def lit0 : State :=
  (arc run0 (fun m => { m with arc := .stable, setpoint := some 1200, purpose := some .pierce })).modBudget (fun b =>
    { b with bookings := put b.bookings 0 ⟨.cut, 100⟩, total := 100 })

/-- The arc of channel 1 in STRIKING for a PIERCE, one good sample short of 48. -/
def strike0 : State :=
  chan (arc run0 (fun m =>
    { m with arc := .striking, setpoint := some 1200, purpose := some .pierce, strikeTimer := some 50, goodCount := 47 }))
    (fun c => { c with inProgress := .pierce 100 1200 30 })

/-- Channel 1 ENDING behind three TRAVEL entries. -/
def ending0 : State :=
  chan run0 (fun c =>
    { c with
      state := .ending
      endConsumed := true
      window := [5, 6, 7].map (fun n => ⟨BitVec.ofNat 8 n, .motion (.travel 1 2 3), none, none⟩) })

/-- Channel 1 HELD with its arc DARK. -/
def held0 : State := chan run0 (fun c => { c with state := .held, heldCause := some .host })

/-- One STOCKED remnant in rack 1, slot 1, one period short of expiry. -/
def rack0 : State :=
  run0.setRemnant 0 (some ⟨.stocked, 3, 7, 20, 500, 600, 460, 560, some ⟨0, 0⟩, none, none, 29, none⟩)

def order0 : Order :=
  ⟨7, .loadNew, .queued, none, .urgent, false, .only .c2, .intake, .bay 7, some ⟨3, 7, 150, 4000, 5307, none⟩, 24996, none,
    some 0, none, none⟩

/-- Hall PAUSE with order 7 in a state, held by C2 unless it is QUEUED. -/
def ordered (x : OrderState) (phase : Option Phase) : State :=
  ((inHall run0 .pause).modBay 7 (fun k => { k with state := .loading, claim := some 7 })).modDispatcher (fun d =>
    { d with
      counter := 8
      urgent := if x = .queued then [7] else []
      orders := [if x = .queued then order0
        else { order0 with state := x, suspendedPhase := phase, crane := some .c2, queuedMs := none }] })

/-- The same with C2 in TRAVEL towards bay 8. -/
def travel0 (x : OrderState) : State :=
  crn (ordered x none) .c2 (fun k =>
    { k with
      state := .travel
      order := some 7
      target := some 99500
      goal := some ⟨99500, .order⟩
      silenceTimer := some 3 })

/-- C2 STOPPED, with or without order 7. -/
def stopped0 (x : OrderState) (phase : Option Phase) (order : Option Nat) : State :=
  crn (ordered x phase) .c2 (fun k => { k with state := .stopped, stopCause := some .fault, order })

/-! ## Well-formedness: an ill-formed command for each check -/

theorem test_wf_body_too_long : (Instr.identify 0 (List.replicate 253 0)).wf = false := by decide +kernel
theorem test_wf_body_fits : (Instr.identify 0 (List.replicate 252 0)).wf = true := by decide +kernel
theorem test_wf_known_type : (Instr.unknownTypeRequest 0x11 0 []).wf = false := by decide
theorem test_wf_read_of_seven : (Instr.gantryRead 0 1 (List.replicate 7 0x41)).wf = false := by decide
theorem test_wf_gantry_message : (Instr.gantryStrayFrame 0 0x82 (List.replicate 6 0)).wf = false := by decide
theorem test_wf_crane_message : (Instr.craneStrayFrame .c1 0x81 (List.replicate 6 0)).wf = false := by decide
theorem test_wf_length_in_range : (Instr.invalidFrame .host (.badLength 2 0)).wf = false := by decide
theorem test_wf_order_zero : (Instr.orderPromotion 0).wf = false := by decide

/-! ## Values worked in the manual -/

/-- R167: the CRC of the characters 123456789. -/
theorem test_crc : crc [0x31, 0x32, 0x33, 0x34, 0x35, 0x36, 0x37, 0x38, 0x39] = 0x29B1#16 := by decide +kernel

/-- R89: K7A20315-00042-A, K7A20315-00093-# and K7B11020-99999-X. -/
theorem test_mark_strings :
    markString heatA.code 42 = heatA.code ++ [0x2D, 0x30, 0x30, 0x30, 0x34, 0x32, 0x2D, 0x41] ∧
    markString heatA.code 93 = heatA.code ++ [0x2D, 0x30, 0x30, 0x30, 0x39, 0x33, 0x2D, 0x23] ∧
    markString [0x4B, 0x37, 0x42, 0x31, 0x31, 0x30, 0x32, 0x30] 99999 =
      [0x4B, 0x37, 0x42, 0x31, 0x31, 0x30, 0x32, 0x30, 0x2D, 0x39, 0x39, 0x39, 0x39, 0x39, 0x2D, 0x58] := by decide +kernel

/-- R65: the table of pierce amounts. -/
theorem test_pierce_amounts :
    [(20, 100), (101, 150), (133, 150), (200, 150), (260, 150), (333, 133), (400, 250)].map (fun p => pierceAmount p.1 p.2) =
      [20, 152, 200, 300, 390, 443, 1000] := by decide

/-- R119: the mass in kg rounded up: the worked loads at 7 850 kg/m3. -/
theorem test_masses : massOf 3000 12000 40 = 11304 ∧ massOf 2450 6100 25 = 2933 ∧ massOf 4000 16000 150 = 75360 := by
  decide +kernel

/-! ## One step: resets and the host link -/

/-- The body of the reply a request makes. -/
def answer (i : Instr) (s : State) : List Byte := ((after i s).link.replies.getLast?.map (·.body)).getD []

def codeA : List Byte := heatA.code
def codeB : List Byte := [0x4B, 0x37, 0x42, 0x31, 0x31, 0x30, 0x32, 0x30]

theorem test_power_on : let t := after (.powerOn .fast) lit0
    (t.hall.state, t.link.rate, t.link.restart, (t.notice .restart).count, (t.monitor 0).arc) = (.park, .fast, .powerOn, 1, .dark) := by
  decide +kernel
theorem test_reset_pin : let t := after (.resetPin .slow) (busy lit0)
    (t.link.restart, t.link.replies, t.budget.total) = (.resetPin, [], 0) := by decide +kernel
theorem test_identify : answer (.identify 1 []) lit0 =
    [0, 0x47, 0x48, 0x34, 0x38, 0x30, 0x20, 0x20, 0x20, 1, 0, 4, 8, 32, 64, 96, 16] := by decide +kernel
theorem test_link_status : answer (.linkStatus 1 []) State.reset =
    [0, 1, 0, 0, 0, 0, 0, 0, 0, 0, 0, 0, 0, 1, 0xFF, 0xFF, 3, 1, 0, 0, 1] ++ List.replicate 17 0 := by decide +kernel
theorem test_notice_mask : let t := after (.noticeMask 1 [0, 1, 0, 2]) run0
    (t.link.master, (t.notice .restart).enabled, (t.notice .hall).enabled, (t.notice .summary).enabled) =
      (false, true, false, true) := by decide +kernel
theorem test_notice_mask_above_18 : answer (.noticeMask 1 [1, 0, 0, 4]) run0 = [3] := by decide +kernel
theorem test_notice_clear : let t := after (.noticeClear 1 [0, 0x20, 0]) (run0.mark .bay)
    (t.notice .bay, (t.notice .restart).pending) = (⟨false, 0, true⟩, true) := by decide +kernel
theorem test_unknown_type : (after (.unknownTypeRequest 0x7F 9 [1]) run0).link.replies = [⟨0xFF, 9, [2, 0x7F]⟩] := by decide +kernel
theorem test_overrun : let t := after (.hallPark 1 []) (busy run0)
    (t.link.stats.overruns, t.link.stats.good, t.link.replies.length, t.hall.state) = (1, 1, 4, .run) := by decide +kernel
theorem test_bad_length : answer (.bayAccept 1 []) run0 = [1] := by decide +kernel
theorem test_invalid_frame : let t := after (.invalidFrame .host (.badLength 0xFF 0xA5)) run0
    (t.link.stats.lengthErrors, t.receivers.get .host) = (1, .frame []) := by decide +kernel
theorem test_frame_gap : let t := after (.frameGapTimeout .host) { run0 with receivers := run0.receivers.set .host (.frame [2]) }
    (t.link.stats.silences, t.receivers.get .host) = (1, .hunt) := by decide +kernel
/-- A lead byte inside a frame has no special meaning. -/
theorem test_receive_byte : (after (.receiveByte (.gantry 1) 0xA5)
    { run0 with receivers := run0.receivers.set (.gantry 1) (.frame [2, 0]) }).receivers.get (.gantry 1) = .frame [2, 0, 0xA5] := by
  decide +kernel
theorem test_send_reply : let t := after .sendReply (busy run0)
    (t.link.replies.length, t.link.sending.map (·.typ)) = (3, some 0x81) := by decide +kernel
/-- R174: after power-on the first notice is RESTART with tag 0 and count 1. -/
theorem test_send_notice : let t := after .sendNotice (State.reset.mark .bay)
    (t.link.sending, t.link.sequence, (t.notice .restart).pending, (t.notice .bay).pending) =
      (some ⟨0x80, 0, [1, 1, 0]⟩, 1, false, true) := by decide +kernel
theorem test_transmit_end : (after .transmitFrameEnd (after .sendReply (busy run0))).link.sending = none := by decide +kernel
theorem test_link_silence : let t := after .linkSilence { lit0 with link := { lit0.link with silenceTimer := some 0 } }
    (t.hall.state, t.hall.cause, (t.monitor 0).arc, t.link.silent) = (.pause, .linkSilence, .stable, true) := by decide +kernel

/-! ## One step: hall and lines -/

/-- Hall PAUSE with its gate cause. -/
def pause0 : State := (inHall run0 .pause).modBudget (fun b => { b with causes := ⟨false, some .pause⟩ })
/-- Hall PURGE with C2 IDLE off its park position. -/
def purge0 : State :=
  (State.reset.modHall (fun h => { h with state := .purge, purgeTimer := some 3 })).modCrane .c2 (fun k =>
    { k with state := .idle, position := 50000 })

theorem test_hall_status : (answer (.hallStatus 1 []) State.reset).take 9 = [0, 0, 0, 0, 0, 0, 0, 0, 20] := by decide +kernel
theorem test_hall_wake : let t := after (.hallWake 1 []) State.reset
    (t.hall.state, t.hall.purgeTimer, t.budget.causes.hall, (t.notice .hall).pending) = (.purge, some 20000, some .purge, true) := by
  decide +kernel
theorem test_hall_run : let t := after (.hallRun 1 []) pause0
    (t.hall.state, t.budget.causes.hall) = (.run, none) := by decide +kernel
theorem test_hall_pause : let t := after (.hallPause 1 []) lit0
    (t.hall.state, t.hall.purged, t.budget.causes.hall, t.budget.gateClosings, (t.channel 0).state) =
      (.pause, true, some .pause, 1, .running) := by decide +kernel
theorem test_hall_park : let t := after (.hallPark 1 []) purge0
    (t.hall.state, t.hall.purgeTimer, (t.crane .c2).state, t.sent) = (.park, none, .travel, [.crane .c2 (.goto 120000)]) := by
  decide +kernel
theorem test_hall_reset : let t := after (.hallReset 9 []) ((purge0.mark .bay).modBudget (fun b => { b with limit := 800 }))
    (t.hall.state, t.budget.limit, t.link.replies.length, (t.notice .bay).pending) = (.park, 600, 1, false) := by decide +kernel
theorem test_hall_set : let t := after (.hallSet 1 [120, 60, 0]) purge0
    (t.hall.purgeTime, t.hall.purgeTimer, t.link.silenceTimer, t.hall.summaryTimer) = (120, some 3, some 60000, none) := by
  decide +kernel
theorem test_summary_timer : let t := after .summaryTimerExpiry (run0.modHall (fun h =>
    { h with summaryPeriod := 60, summaryTimer := some 0 }))
    (t.hall.summaryTimer, (t.notice .summary).count) = (some 60000, 1) := by decide +kernel
theorem test_purge_timer : let t := after .purgeTimerExpiry purge0
    (t.hall.state, t.hall.purged, t.budget.causes.hall) = (.run, true, none) := by decide +kernel
/-- R156: making line 16 a guard of bay 1 that is ACTIVE at LOW holds the run there. -/
theorem test_line_set : let t := after (.lineSet 1 [16, 1, 1, 0, 0, 250, 0]) run0
    ((t.line 15).function, (t.channel 0).heldCause, (t.notice .field).pending) = (.guard 0, some .guard, false) := by decide +kernel
theorem test_line_status : answer (.lineStatus 1 [16]) State.reset = [0, 0, 0, 0, 1, 10, 2, 0, 0, 0, 0, 0, 0, 0, 0, 0, 0xFF] := by
  decide +kernel
theorem test_line_clear : let t := after (.lineClear 1 [1, 0x80]) ((run0.modLine 15 (fun l => { l with latch := true })).modLine 1
      (fun l => { l with latch := true }))
    ((t.line 15).latch, (t.line 1).latch) = (false, true) := by decide +kernel
theorem test_line_input : let t := after (.lineInputChange 4 .high) run0
    ((t.line 4).filterTimer, (t.line 4).filtered) = (some 10, .low) := by decide +kernel
theorem test_line_filter : let t := after (.lineFilterExpiry 4) (run0.modLine 4 (fun l => { l with input := .high, filterTimer := some 0 }))
    ((t.line 4).filtered, (t.line 4).latch, (t.line 4).changes, (t.notice .field).pending) = (.high, true, 1, true) := by
  decide +kernel

/-! ## One step: bays -/

theorem test_bay_status : (answer (.bayStatus 1 [1]) run0).take 13 = [0, 5, 0, 0, 3, 7, 20, 0xD0, 7, 0x70, 0x17, 0xFF, 1] := by
  decide +kernel
theorem test_bay_declare : let t := after (.bayDeclare 1 ([2, 3, 150] ++ u16 4000 ++ u16 16000)) run0
    ((t.bay 1).state, (t.bay 1).plate, (t.heat 3).map (·.refs), t.bayTable.changed) =
      (.placed, some ⟨3, 7, 150, 4000, 16000, none, .unchecked⟩, some 3, [1]) := by decide +kernel
theorem test_bay_accept : let t := after (.bayAccept 1 [1]) (bay0 run0 .mismatch)
    ((t.bay 0).state, (t.bay 0).plate.map (·.identity)) = (.ready, some .accepted) := by decide +kernel
theorem test_bay_clear : let t := after (.bayClear 1 [1]) (bay0 run0 .cut)
    ((t.bay 0).state, (t.bay 0).plate, (t.heat 3).map (·.refs)) = (.empty, none, some 1) := by decide +kernel
theorem test_reader_set : (after (.readerSet 1 [8, 10]) run0).bayTable.readerN = 10 ∧ answer (.readerSet 1 [4, 10]) run0 = [3] := by
  decide +kernel
/-- R3: moving rack 1 to 107 000 puts it inside bay 8's widened interval. -/
theorem test_places_set :
    answer (.placesSet 1 { State.reset.layout with racks := put State.reset.layout.racks 0 107000 }.body) State.reset = [3] ∧
    (after (.placesSet 1 { State.reset.layout with intake := 3999 }.body) State.reset).layout.intake = 3999 := by decide +kernel
/-- R19, R20: the fourth equal code of five declares it. -/
theorem test_gantry_read : let t := after (.gantryRead 0 1 codeB) ((bay0 run0 .ready).modBay 0 (fun k =>
      { k with history := [.code codeB, .unreadable, .code codeB, .code codeB] }))
    ((t.bay 0).state, (t.bay 0).plate.map (·.identity), (t.bay 0).declarations, t.bayTable.changed) =
      (.mismatch, some .mismatched, 1, [0]) := by decide +kernel

/-! ## One step: channels and arcs -/

theorem test_steps : let s := chan run0 (fun c => { c with inProgress := .check 0 true 5, state := .waitCheck })
    let i := Instr.steps 1 (stepsRequestBody 0 [.milestone 65535, .finish])
    (answer i s, ((after i s).channel 0).buffer) = ([0, 46], [.milestone 65535, .finish]) := by decide +kernel
/-- R177: a CUT_ARC's record unpacks to its four coordinates. -/
theorem test_steps_arc : ((after (.steps 1 ([1, 1] ++ [20] ++ toBytes 9 (160000 + 2 ^ 18 * 45000 + 2 ^ 34 * (2 ^ 19 - 1) +
      2 ^ 53 * (2 ^ 17 - 45000)) ++ u16 10 ++ u16 400 ++ u16 2500)) (chan run0 (fun c => { c with state := .held }))).channel 0).buffer =
    [.cutArc 160000 45000 (-1) (-45000) .ccw 10 400 2500] := by decide +kernel
theorem test_start : let t := after (.start 1 [1, 1]) ((chan run0 (fun _ => { Channel.reset with gantryTimer := some 4 })).modBay 0
      (fun k => { k with state := .ready }))
    ((t.channel 0).state, (t.channel 0).bay, (t.bay 0).state, t.bayTable.changed) = (.starved, some 0, .burning, [0]) := by
  decide +kernel
theorem test_hold : let t := after (.hold 1 [1]) lit0
    ((t.channel 0).state, (t.channel 0).haltTimer, (t.monitor 0).arc, t.sent) =
      (.held, some 1000, .dark, [.gantry 0 .halt, .gantry 0 .torchOff]) := by decide +kernel
theorem test_resume : let t := after (.resume 1 [1]) held0
    ((t.channel 0).state, (t.channel 0).heldCause) = (.starved, none) := by decide +kernel
theorem test_stop : let t := after (.stop 1 [1]) lit0
    ((t.channel 0).state, (t.channel 0).lastEnd, (t.bay 0).state, (t.bay 0).outcome, t.budget.total) =
      (.idle, some ⟨.aborted, 0, true⟩, .cut, .incomplete, 0) := by decide +kernel
theorem test_flush : ((after (.flush 1 [1]) (chan State.reset (fun c => { c with buffer := [.finish] }))).channel 0).buffer = [] ∧
    answer (.flush 1 [1]) run0 = [4] := by decide +kernel
theorem test_channel_status : (answer (.channelStatus 1 [1]) State.reset).take 11 = [0, 0, 0xFF, 0, 0, 0, 0, 0, 0, 0, 48] := by
  decide +kernel
theorem test_arc_set : let t := after (.arcSet 1 ([0] ++ u16 500 ++ [255, 64, 64] ++ u16 5000 ++ [3])) run0
    ((t.monitor 3).params, (t.channel 3).params.band) = (⟨500, 255, 64, 64, 5000, 3⟩, 80) := by decide +kernel
theorem test_arc_status : (answer (.arcStatus 1 [1]) lit0).take 5 = [0, 2, 0xB0, 4, 0] := by decide +kernel
theorem test_gantry_done : let t := after (.gantryDone 0 7) ending0
    ((t.channel 0).state, (t.channel 0).stepsDone, (t.bay 0).outcome, t.sent) = (.idle, 3, .complete, [.gantry 0 .rest]) := by
  decide +kernel
theorem test_gantry_halted : let t := after (.gantryHalted 0 100 200) (chan held0 (fun c =>
      { c with haltTimer := some 3, window := [⟨4, .markMove, none, none⟩] }))
    ((t.channel 0).path, (t.channel 0).haltTimer, (t.channel 0).window) = (some ⟨100, 200⟩, none, []) := by decide +kernel
/-- R52: 128.0 V is just inside a band of 8.0 V about 120.0 V, 128.1 V just outside. -/
theorem test_gantry_sample : ((after (.gantrySample 0 1280) strike0).monitor 0).arc = .stable ∧
    ((after (.gantrySample 0 1281) strike0).monitor 0).goodCount = 0 := by decide +kernel
theorem test_gantry_status : ((after (.gantryStatus 0 255) lit0).channel 0).lastEnd = some ⟨.gantryFault, 0, true⟩ := by
  decide +kernel
theorem test_gantry_stray : let t := after (.gantryStrayFrame 0 0x99 []) run0
    ((t.channel 0).strays, (t.channel 0).gantryTimer) = (1, some 100) := by decide +kernel
theorem test_gantry_silence : let t := after (.gantrySilenceTimeout 0) lit0
    ((t.channel 0).lastEnd, (t.channel 0).gantryTimer, t.sent.getLast?) =
      (some ⟨.gantrySilent, 0, true⟩, none, some (.gantry 0 .rest)) := by decide +kernel
theorem test_halt_timer : ((after (.haltTimerExpiry 0) (chan held0 (fun c => { c with haltTimer := some 0 }))).channel 0).lastEnd =
    some ⟨.gantryFault, 0, true⟩ := by decide +kernel
theorem test_check_timer : ((after (.checkTimerExpiry 0) (chan run0 (fun c =>
    { c with state := .waitCheck, inProgress := .check 0 true 5, checkTimer := some 0 }))).channel 0).lastEnd =
    some ⟨.checkTimeout, 0, true⟩ := by decide +kernel
theorem test_strike_timer : let t := after (.strikeTimerExpiry 0) strike0
    ((t.monitor 0).retryCount, (t.monitor 0).strikeTimer, t.sent) =
      (1, some 2000, [.gantry 0 .torchOff, .gantry 0 (.torchOn 100 .cut)]) := by decide +kernel
theorem test_dwell_timer : let t := after (.dwellTimerExpiry 0) ((chan lit0 (fun c =>
      { c with inProgress := .pierce 100 1200 30, dwellTimer := some 0, buffer := [.cutLine 5 6 700 100 1300] })).modBudget (fun b =>
        { b with bookings := put b.bookings 0 ⟨.pierce, 150⟩, total := 150 }))
    (t.booking 0, t.budget.total, (t.channel 0).stepsDone) = (⟨.cut, 100⟩, 100, 1) := by decide +kernel

/-! ## One step: budget, marking and remnants -/

theorem test_budget_set : let t := after (.budgetSet 1 (u16 100 ++ u16 99 ++ u16 98 ++ [250])) lit0
    (t.budget.limit, t.budget.surge, t.budget.causes.load) = (100, 250, true) := by decide +kernel
theorem test_budget_status : (answer (.budgetStatus 1 []) lit0).take 12 = [0, 0x58, 2, 0xF4, 1, 0x90, 1, 150, 100, 0, 1, 0] := by
  decide +kernel
theorem test_heat_open : let t := after (.heatOpen 1 (codeB ++ [255] ++ u32 99999)) run0
    t.heat 0 = some ⟨.active, codeB, 255, 99999, 99999, 0, 0, 0⟩ ∧ answer (.heatOpen 1 (codeA ++ [255] ++ u32 1)) run0 = [3] := by
  decide +kernel
theorem test_heat_close : ((after (.heatClose 1 [3]) run0).heat 3).map (·.state) = some .closed := by decide +kernel
theorem test_heat_reopen : ((after (.heatReopen 1 [3]) (after (.heatClose 1 [3]) run0)).heat 3).map (·.state) = some .active := by
  decide +kernel
theorem test_heat_drop : answer (.heatDrop 1 [3]) run0 = [10] ∧ answer (.heatDrop 1 [4]) run0 = [8] := by decide +kernel
theorem test_heat_status : answer (.heatStatus 1 [3]) run0 =
    [0, 1] ++ codeA ++ [7, 1, 0, 0, 0, 1, 0, 0, 0, 0, 0, 0, 0, 0, 0, 0, 0, 0, 2, 31] := by decide +kernel
theorem test_trace_read : answer (.traceRead 1 [1, 0, 0, 0, 8]) (run0.modComposer (fun c =>
      { c with total := 1, trace := [⟨1, 0, 0, 3, codeA, some 42, 7, .marked⟩] })) =
    [0, 1, 0, 0, 0, 1, 0, 0, 0, 1, 1, 0, 0, 0, 1, 1, 3] ++ codeA ++ [42, 0, 0, 0, 7, 0, 1] := by decide +kernel
/-- R99: 340 mm under a margin of 20 mm leaves 300 mm. -/
theorem test_remnant_add : let t := after (.remnantAdd 1 ([4, 24, 3, 7, 150] ++ u16 340 ++ u16 340 ++ [29])) rack0
    (t.remnant 1).map (fun r => (r.usableWidth, r.state, r.slot)) = some (300, .stocked, some ⟨3, 23⟩) ∧
    answer (.remnantAdd 1 ([4, 24, 3, 7, 150] ++ u16 2400 ++ u16 330 ++ [29])) rack0 = [22] := by decide +kernel
theorem test_remnant_from_bay : let t := after (.remnantFromBay 1 ([1] ++ u16 2000 ++ u16 340)) (bay0 rack0 .cut)
    ((t.remnant 1).map (fun r => (r.state, r.bay, r.usableWidth)), (t.bay 0).plate.bind (·.remnant)) =
      (some (.inBay, some 0, 1960), some 1) := by decide +kernel
theorem test_remnant_reserve : ((after (.remnantReserve 1 [0, 0xFF, 0xFF]) rack0).remnant 0).map (fun r => (r.state, r.tag)) =
    some (.reserved, some 65535) := by decide +kernel
/-- R104: a record released after its age has reached the expiry count expires at once. -/
theorem test_remnant_unreserve : let t := after (.remnantUnreserve 1 [0]) (rack0.modRemnant 0 (fun r =>
      { r with state := .reserved, tag := some 5, age := 30 }))
    ((t.remnant 0).map (fun r => (r.state, r.tag)), t.remnants.expired) = (some (.expired, none), [0]) := by decide +kernel
theorem test_remnant_renew : ((after (.remnantRenew 1 [0]) rack0).remnant 0).map (·.age) = some 0 := by decide +kernel
theorem test_remnant_read : (answer (.remnantRead 1 [0]) rack0).take 21 =
    [0, 0, 1, 3, 7, 20, 0xF4, 1, 0x58, 2, 0xCC, 1, 0x30, 2, 1, 1, 0, 0, 29, 0, 0] := by decide +kernel
/-- R112: a piece of 560 x 460 fits the 460 x 560 record turned. -/
theorem test_remnant_find : answer (.remnantFind 1 ([7, 20] ++ u16 560 ++ u16 460 ++ u16 0)) rack0 =
    [0, 1, 1, 0, 1, 1, 1, 0xCC, 1, 0x30, 2, 0x40, 0xEE, 3, 0, 29, 1] := by decide +kernel
theorem test_remnant_set : let t := after (.remnantSet 1 ([100] ++ u16 1000 ++ u16 0 ++ [29])) rack0
    ((t.remnant 0).map (·.state), t.remnants.agingTimer) = (some .expired, none) := by decide +kernel
theorem test_remnant_drop : let t := after (.remnantDrop 1 [0]) rack0
    (t.remnant 0, (t.heat 3).map (·.refs)) = (none, some 1) := by decide +kernel
theorem test_aging_timer : let t := after .agingTimerExpiry rack0
    ((t.remnant 0).map (fun r => (r.age, r.state)), (t.notice .remnant).count) = (some (30, .expired), 1) := by decide +kernel

/-! ## One step: orders and cranes -/

/-- R121: 150 x 4000 x 5307 mm is 24 996 kg, within C2's 25 000 kg, and 1 mm more is not. -/
theorem test_order_submit : let body (length : Nat) := [0, 1, 2, 1, 0, 9, 0, 3, 150] ++ u16 4000 ++ u16 length
    let t := after (.orderSubmit 9 (body 5307)) (inHall run0 .pause)
    (t.dispatcher.urgent, (t.bay 7).claim, (t.heat 3).map (·.refs), t.dispatcher.counter) = ([1], some 1, some 3, 2) ∧
    answer (.orderSubmit 9 (body 5308)) (inHall run0 .pause) = [16] := by decide +kernel
theorem test_order_cancel : let t := after (.orderCancel 2 (u16 7)) (ordered .queued none)
    (t.dispatcher.orders, t.dispatcher.cancelled, (t.bay 7).state, (t.heat 3).map (·.refs)) = ([], 1, .empty, some 1) := by
  decide +kernel
theorem test_order_redirect : let s := crn (travel0 .carrying) .c2 (fun k => { k with position := 90000, hook := order0.load })
    let t := after (.orderRedirect 2 (u16 7 ++ [8, 0])) s
    ((t.bay 6).claim, (t.bay 7).claim, t.sent) = (some 7, none, [.crane .c2 (.goto 87000)]) := by decide +kernel
theorem test_order_status : (answer (.orderStatus 1 (u16 7)) (ordered .queued none)).drop 21 =
    [0xA4, 0x61, 0, 0, 0, 0, 0, 1] := by decide +kernel
theorem test_crane_status : (answer (.craneStatus 1 [2]) State.reset).take 8 = [0, 0, 0xFF, 0xFF, 0xC0, 0xD4, 1, 0] := by
  decide +kernel
theorem test_crane_resume : let t := after (.craneResume 1 [2]) (stopped0 .suspended (some .lifting) (some 7))
    ((t.crane .c2).state, (t.crane .c2).hoistTimer, t.sent, (t.order 7).map (·.state)) =
      (.hoist, some 120000, [.crane .c2 .hoistPick], some .lifting) := by decide +kernel
theorem test_crane_clear : let t := after (.craneClear 1 [2]) (stopped0 .suspended (some .assigned) (some 7))
    ((t.crane .c2).state, t.dispatcher.failed, (t.bay 7).state) = (.idle, 1, .empty) := by decide +kernel
def craneSettings : CraneSettings := { CraneSettings.reset with separation := 30000, reach := ⟨[0, 3, 13], [5]⟩, agingTime := 30 }
theorem test_crane_set : (after (.craneSet 1 craneSettings.body) State.reset).settings = craneSettings ∧
    answer (.craneSet 1 craneSettings.body) run0 = [4] := by decide +kernel
def aging0 : State := (ordered .queued none).modDispatcher (fun d => { d with settings := craneSettings, normal := [7], urgent := [] })
theorem test_promotion : let t := after (.orderPromotion 7) aging0
    (t.dispatcher.urgent, t.dispatcher.normal, (t.order 7).map (·.promoted)) = ([7], [], some true) := by decide +kernel
/-- R125: an older order of the normal list has reached the aging time too, and goes first. -/
theorem test_promotion_oldest_first : (after (.orderPromotion 9) (aging0.modDispatcher (fun d =>
    { d with normal := [5, 7, 9, 4] }))).dispatcher.urgent = [5, 7, 9] := by decide +kernel
theorem test_arrived : let t := after (.arrived .c2 99500) (travel0 .assigned)
    ((t.crane .c2).state, t.sent, (t.order 7).map (·.state)) = (.hoist, [.crane .c2 .hoistPick], some .lifting) := by decide +kernel
theorem test_picked : let t := after (.picked .c2) (crn (travel0 .lifting) .c2 (fun k => { k with state := .hoist }))
    ((t.crane .c2).hook, t.sent, (t.order 7).map (·.state)) = (order0.load, [.crane .c2 (.goto 99500)], some .carrying) := by
  decide +kernel
theorem test_set_down : let t := after (.setDown .c2) (crn (travel0 .lowering) .c2 (fun k => { k with state := .hoist, hook := order0.load }))
    ((t.bay 7).state, (t.crane .c2).hook, t.dispatcher.done) = (.placed, none, 1) := by decide +kernel
theorem test_crane_port_status : let t := after (.cranePortStatus .c2 119900 0 0) State.reset
    ((t.crane .c2).state, (t.crane .c2).position, (t.crane .c2).silenceTimer) = (.parked, 119900, some 500) := by decide +kernel
/-- R147: 8 999 mm between the cranes is below S = 9 000 mm; found again, both are sent HALT again and nothing is counted. -/
theorem test_separation :
    let s := crn (crn (inHall run0 .pause) .c1 (fun k => { k with state := .idle })) .c2 (fun k => { k with state := .idle })
    let t := after (.cranePortStatus .c1 111001 0 0) s
    ((t.crane .c1).stopCause, (t.crane .c2).stopCause) = (some .separation, some .separation) ∧
      (after (.cranePortStatus .c1 111000 0 0) s).sent = [] ∧
      let u := after (.cranePortStatus .c1 111001 0 0) t
      (u.sent.drop 2, (u.crane .c1).separationFaults) = ([.crane .c1 .halt, .crane .c2 .halt], 1) := by decide +kernel
theorem test_crane_stray : let t := after (.craneStrayFrame .c1 0x55 []) run0
    ((t.crane .c1).strays, (t.crane .c1).silenceTimer) = (1, some 500) := by decide +kernel
/-- Both STOPPED(SEPARATION). -/
def separated : State :=
  let stop (k : Crane) : Crane := { k with state := .stopped, stopCause := some .separation }
  crn (crn (inHall run0 .pause) .c1 stop) .c2 stop

/-- R137: a stray frame starts the timer of an OFFLINE crane, and its expiry counts. -/
theorem test_crane_silence_offline : let t := after (.craneSilenceTimeout .c2) (after (.craneStrayFrame .c2 9 []) State.reset)
    ((t.crane .c2).offlineEntries, (t.notice (.crane .c2)).pending) = (1, false) := by decide +kernel
theorem test_crane_silence : let t := after (.craneSilenceTimeout .c2) (travel0 .carrying)
    ((t.crane .c2).state, (t.order 7).map (fun o => (o.state, o.suspendedPhase))) =
      (.offline, some (.suspended, some .carrying)) := by decide +kernel
theorem test_hoist_timer : let t := after (.hoistTimerExpiry .c2) (crn (travel0 .lowering) .c2 (fun k =>
      { k with state := .hoist, hoistTimer := some 0 }))
    ((t.crane .c2).stopCause, t.sent) = (some .hoistTimeout, [.crane .c2 .halt]) := by decide +kernel

/-! ## Witnesses: states and operands that meet the hypotheses of each statement, clause by clause -/

theorem open0 : run0.Open := openAt (by decide +kernel)
theorem openReset : State.reset.Open := openAt (by decide +kernel)

theorem heat_run0 (h : HeatIx) : run0.heat h = if h = 3 then some heatA else none := by revert h; decide +kernel

/-- The fullest state: 48 steps, four window entries, 16 orders, 32 history entries, 64 trace records, four replies. -/
def full0 : State :=
  (((busy (chan run0 (fun c =>
    { c with
      buffer := List.replicate 48 .finish
      window := List.replicate 4 ⟨0, .markMove, none, none⟩ }))).modComposer (fun c =>
        { c with trace := List.replicate 64 ⟨1, 0, 0, 3, codeA, none, 7, .marked⟩ }))).modDispatcher (fun d =>
          { d with
            orders := List.replicate 16 order0
            history := List.replicate 32 ⟨7, .loadNew, .done, none, none⟩ })

theorem witness_IdleStepIsOneMillisecond : run0.pending = [] := by decide +kernel

theorem witness_BudgetAndGateKept : lit0.Inv ∧ ∃ t, step lit0 = .next t :=
  ⟨⟨(by decide +kernel : lit0.budget.total = lit0.budget.booked), (by decide +kernel : lit0.budget.causes.hall = lit0.hall.state.gateCause),
    (by decide +kernel : lit0.dispatcher.passDue = false)⟩, ⟨_, rfl⟩⟩

theorem witness_CapacitiesKept : full0.WithinCapacity ∧ ∃ t, step full0 = .next t :=
  ⟨⟨by decide +kernel, by decide +kernel, by decide +kernel, by decide +kernel, by decide +kernel, by decide +kernel⟩, ⟨_, rfl⟩⟩

theorem witness_HeatTableKept : run0.HeatTableSound ∧ ∃ t, step run0 = .next t := by
  refine ⟨⟨fun h e he => ?_, fun h k e f he hf _ => ?_⟩, ⟨_, rfl⟩⟩
  · rw [heat_run0] at he
    split at he
    · cases he; decide
    · cases he
  · rw [heat_run0] at he hf
    split at he <;> split at hf <;> first | (simp at he; done) | (simp at hf; done) | (subst_vars; rfl)

theorem witness_OrderNumbersKept : (ordered .queued none).OrderNumbersSound ∧ ∃ t, step (ordered .queued none) = .next t :=
  ⟨⟨by decide +kernel, by decide +kernel, by decide +kernel, by decide +kernel⟩, ⟨_, rfl⟩⟩

theorem witness_MonitorsKept : lit0.MonitorsSound ∧ ∃ t, step lit0 = .next t :=
  ⟨fun g => ⟨by revert g; decide +kernel, by revert g; decide +kernel, by revert g; decide +kernel, by revert g; decide +kernel,
    by revert g; decide +kernel, by revert g; decide +kernel⟩, ⟨_, rfl⟩⟩

theorem witness_CraneCausesKept : (stopped0 .assigned none none).CranesSound ∧ ∃ t, step (stopped0 .assigned none none) = .next t :=
  ⟨fun c => by cases c <;> exact ⟨by decide +kernel, by decide +kernel⟩, ⟨_, rfl⟩⟩

theorem witness_ReceivedFrameRunsItsCommand :
    (⟨0x31, 255, List.replicate 252 0xA5⟩ : Frame).body.length ≤ 252 ∧ run0.receivers.get .host = .hunt := by decide +kernel

theorem witness_FrameOfCommandReadsBack :
    ((Instr.orderCancel 7 [1, 2]).wf = true ∧ commandFrame (.orderCancel 7 [1, 2]) = some (.host, ⟨0x72, 7, [1, 2]⟩)) ∧
    ((Instr.gantryHalted 3 0xFFFFFFFF 1).wf = true ∧
      commandFrame (.gantryHalted 3 0xFFFFFFFF 1) = some (.gantry 3, ⟨0x82, 0, [0xFF, 0xFF, 0xFF, 0xFF, 1, 0]⟩)) ∧
    ((Instr.arrived .c2 0x01020304).wf = true ∧
      commandFrame (.arrived .c2 0x01020304) = some (.crane .c2, ⟨0x82, 0, [4, 3, 2, 1]⟩)) := by decide +kernel

theorem witness_HallReset :
    (purge0.Open ∧ purge0.quiet = true ∧ purge0.dispatcher.orders = []) ∧ (run0.Open ∧ run0.quiet = false) ∧
    ((ordered .queued none).Open ∧ (ordered .queued none).dispatcher.orders ≠ []) := by
  and_intros <;> first | exact openAt (by decide +kernel) | decide +kernel

theorem witness_OverrunDiscardsTheRequest :
    commandFrame (.hallRun 1 []) = some (.host, ⟨0x12, 1, []⟩) ∧ 4 ≤ (busy run0).link.replies.length := by decide +kernel

theorem witness_WrongLengthIsRefused :
    ((Instr.bayAccept 1 []).wf = true ∧ commandFrame (.bayAccept 1 []) = some (.host, ⟨0x23, 1, []⟩) ∧
      0x23 ∈ requestTypes ∧ requestLengthFits ⟨0x23, 1, []⟩ = false ∧ run0.Open) ∧
    ((Instr.steps 1 [1, 1]).wf = true ∧ commandFrame (.steps 1 [1, 1]) = some (.host, ⟨0x31, 1, [1, 1]⟩) ∧
      0x31 ∈ requestTypes ∧ requestLengthFits ⟨0x31, 1, [1, 1]⟩ = false ∧ run0.Open) := by
  and_intros <;> first | exact open0 | decide +kernel

theorem witness_NumberOutOfRangeIsRefused :
    ((Instr.bayAccept 1 [9]).wf = true ∧ commandFrame (.bayAccept 1 [9]) = some (.host, ⟨0x23, 1, [9]⟩) ∧
      ((0x23 : Byte).toNat, 1, 8) ∈ numberRequests ∧ ((9 : Byte).toNat < 1 ∨ 8 < (9 : Byte).toNat) ∧ run0.Open) ∧
    ((Instr.remnantRead 1 [96]).wf = true ∧ commandFrame (.remnantRead 1 [96]) = some (.host, ⟨0x66, 1, [96]⟩) ∧
      ((0x66 : Byte).toNat, 0, 95) ∈ numberRequests ∧ ((96 : Byte).toNat < 0 ∨ 95 < (96 : Byte).toNat) ∧ run0.Open) := by
  and_intros <;> first | exact open0 | decide +kernel

theorem witness_UnknownTypeIsAnswered : run0.HasReplyRoom := (by decide +kernel : run0.link.replies.length < 4)

/-- Each of the fourteen status requests, at the last value of its operand's range. -/
theorem witness_StatusRequestsOnlyRead : run0.Open ∧ ∀ i ∈ [Instr.identify 1 [], .linkStatus 1 [], .hallStatus 1 [],
    .lineStatus 1 [16], .bayStatus 1 [8], .channelStatus 1 [4], .arcStatus 1 [4], .budgetStatus 1 [], .heatStatus 1 [31],
    .traceRead 1 [0xFF, 0xFF, 0xFF, 0xFF, 8], .remnantRead 1 [95], .remnantFind 1 [1, 150, 100, 0, 0x80, 0x3E, 0, 0],
    .orderStatus 1 [0xFF, 0xFF], .craneStatus 1 [2]], ∃ f, run0.taken.statusReply i = some f :=
  ⟨open0, fun i hi => Option.isSome_iff_exists.mp ((by decide +kernel : ∀ i ∈ [Instr.identify 1 [], .linkStatus 1 [],
    .hallStatus 1 [], .lineStatus 1 [16], .bayStatus 1 [8], .channelStatus 1 [4], .arcStatus 1 [4], .budgetStatus 1 [],
    .heatStatus 1 [31], .traceRead 1 [0xFF, 0xFF, 0xFF, 0xFF, 8], .remnantRead 1 [95],
    .remnantFind 1 [1, 150, 100, 0, 0x80, 0x3E, 0, 0], .orderStatus 1 [0xFF, 0xFF], .craneStatus 1 [2]],
      (run0.taken.statusReply i).isSome = true) i hi)⟩

theorem witness_NoticeMaskReplacesTheMask : run0.Open ∧ 2 ^ 18 - 1 < 2 ^ 18 := ⟨open0, by decide⟩
theorem witness_NoticeClearClearsTheClasses : run0.Open ∧ 2 ^ 18 - 1 < 2 ^ 18 := ⟨open0, by decide⟩

def receiving (got : List Byte) : State := { run0 with receivers := run0.receivers.set .host (.frame got) }

theorem witness_ReceiversCollectAndAbandonFrames :
    run0.receivers.get (.crane .c2) = .hunt ∧ (receiving []).receivers.get .host = .frame [] ∧
    ((receiving [2, 0]).receivers.get .host = .frame [2, 0] ∧ 2 ≤ [2, 0].length ∧
      [2, 0].length + 1 < ofBytes (([2, 0] : List Byte).take 2) + 4) ∧
    ((receiving [254]).receivers.get .host = .frame [254] ∧ (254 : Byte).toNat + 256 * (0 : Byte).toNat ≤ 254) ∧
    ((receiving [255]).receivers.get .host = .frame [255] ∧ 254 < (255 : Byte).toNat + 256 * (0 : Byte).toNat) ∧
    ((receiving ([2, 0, 1, 1] ++ [0])).receivers.get .host = .frame ([2, 0, 1, 1] ++ [0]) ∧ 2 ≤ ([2, 0, 1, 1] : List Byte).length ∧
      ([2, 0, 1, 1] : List Byte).length + 2 = ofBytes (([2, 0, 1, 1] : List Byte).take 2) + 4 ∧
      [(0 : Byte), 0] ≠ toBytes 2 (crc [2, 0, 1, 1]).toNat) := by decide +kernel

theorem test_receive_bad_crc : let t := after (.receiveByte .host 0) (receiving [2, 0, 1, 1, 0])
    (t.receivers.get .host, t.link.stats.crcErrors, t.link.replies) = (.hunt, 1, []) := by decide +kernel

/-- SUMMARY alone is pending. -/
def summary0 : State := (run0.mark .summary).clearNotice .restart

theorem witness_TransmitterSendsRepliesFirst :
    ((busy run0).link.sending = none ∧ (busy run0).link.replies = reply 1 0 .ok [] :: List.replicate 3 (reply 1 0 .ok [])) ∧
    (run0.link.sending = none ∧ run0.link.replies = [] ∧ run0.link.master = true ∧ (run0.notice .restart).pending = true ∧
      (run0.notice .restart).enabled = true ∧
      ∀ q : NoticeClass, q.index < NoticeClass.restart.index → (run0.notice q).pending = false ∨ (run0.notice q).enabled = false) ∧
    (summary0.link.sending = none ∧ summary0.link.replies = [] ∧ summary0.link.master = true ∧
      (summary0.notice .summary).pending = true ∧ (summary0.notice .summary).enabled = true ∧
      ∀ q : NoticeClass, q.index < NoticeClass.summary.index →
        (summary0.notice q).pending = false ∨ (summary0.notice q).enabled = false) ∧
    { run0 with link := { run0.link with sending := some (reply 1 0 .ok []) } }.link.sending = some (reply 1 0 .ok []) ∧
    { run0 with link := { run0.link with master := false } }.link.master = false := by
  and_intros <;> first
    | decide +kernel
    | exact fun q h => absurd h (Nat.not_lt_zero _)
    | exact fun q h => .inl ((by decide +kernel :
        ∀ i : Fin 18, i < NoticeClass.summary.index → (summary0.link.notices.get i).pending = false) q.index h)

theorem witness_LinkSilencePausesTheHall :
    let silence (s : State) : State := { s with link := { s.link with silenceTimer := some 0 } }
    ((silence run0).link.silenceTimer ≠ none ∧ (silence run0).Settled ∧ (silence run0).hall.state = .run) ∧
    ((silence purge0).link.silenceTimer ≠ none ∧ (silence purge0).Settled ∧ (silence purge0).hall.state = .purge) ∧
    ((silence State.reset).link.silenceTimer ≠ none ∧ (silence State.reset).Settled ∧
      (silence State.reset).hall.state = .park) := by
  simp only [State.Settled]; decide +kernel

/-! ### Hall and lines -/

/-- A HALL_STOP line that is ACTIVE at LOW. -/
def stopLine (s : State) : State := s.modLine 0 (fun l => { l with function := .hallStop, activeLevel := .low })

theorem witness_HallWakeStartsThePurge :
    (State.reset.Open ∧ State.reset.hall.state = .park ∧ State.reset.hallStopActive = false) ∧
    (run0.Open ∧ run0.hall.state ≠ .park) ∧
    ((stopLine State.reset).Open ∧ (stopLine State.reset).hall.state = .park ∧ (stopLine State.reset).hallStopActive = true) := by
  and_intros <;> first | exact openAt (by decide +kernel) | decide +kernel

theorem witness_HallRunLeavesPause :
    (pause0.Open ∧ pause0.hall.state = .pause ∧ pause0.hallStopActive = false ∧ pause0.hall.purged = true) ∧
    ((inHall State.reset .pause).Open ∧ (inHall State.reset .pause).hall.state = .pause ∧
      (inHall State.reset .pause).hallStopActive = false ∧ (inHall State.reset .pause).hall.purged = false) ∧
    (run0.Open ∧ run0.hall.state ≠ .pause) ∧
    ((stopLine pause0).Open ∧ (stopLine pause0).hall.state = .pause ∧ (stopLine pause0).hallStopActive = true) := by
  and_intros <;> first | exact openAt (by decide +kernel) | decide +kernel

theorem witness_HallPauseKeepsTheRuns :
    (run0.Open ∧ run0.hall.state = .run) ∧ (purge0.Open ∧ purge0.hall.state = .purge) ∧
    (State.reset.Open ∧ State.reset.hall.state = .park) ∧ (pause0.Open ∧ pause0.hall.state = .pause) := by
  and_intros <;> first | exact openAt (by decide +kernel) | decide +kernel

theorem witness_HallParkNeedsAQuietHall :
    (purge0.Open ∧ purge0.hall.state ≠ .park ∧ (∀ g, (purge0.channel g).state = .idle) ∧
      (∀ c, (purge0.crane c).order = none ∧ (purge0.crane c).state ≠ .stranded) ∧ (purge0.crane .c2).state = .idle) ∧
    (State.reset.Open ∧ State.reset.hall.state = .park) ∧
    (run0.Open ∧ run0.hall.state ≠ .park ∧ ¬ ((∀ g, (run0.channel g).state = .idle) ∧
      ∀ c, (run0.crane c).order = none ∧ (run0.crane c).state ≠ .stranded)) := by
  and_intros <;> first
    | exact openAt (by decide +kernel)
    | decide +kernel
    | exact fun h => absurd (h.1 0) (by decide +kernel : ¬ (run0.channel 0).state = .idle)
    | exact fun c => by cases c <;> decide +kernel

theorem witness_HallSetReplacesTheTimes :
    (run0.Open ∧ (5 ≤ 120 ∧ 120 ≤ 120) ∧ 60 ≤ 60 ∧ 0 ≤ 60) ∧
    (run0.Open ∧ ((4 : Byte).toNat < 5 ∨ 120 < (4 : Byte).toNat ∨ 60 < (0 : Byte).toNat ∨ 60 < (0 : Byte).toNat)) ∧
    (run0.modHall (fun h => { h with summaryPeriod := 1, summaryTimer := some 0 })).hall.summaryTimer = some 0 ∧
    run0.hall.summaryTimer = none := by
  and_intros <;> first | exact open0 | decide +kernel

theorem witness_PurgeTimerOpensTheHall :
    (purge0.Settled ∧ purge0.hall.state = .purge ∧ purge0.hall.purgeTimer = some 3 ∧ purge0.link.silent = false) ∧
    (let s : State := { purge0 with link := { purge0.link with silent := true } };
      s.Settled ∧ s.hall.state = .purge ∧ s.hall.purgeTimer = some 3 ∧ s.link.silent = true) ∧
    run0.hall.purgeTimer = none := by
  simp only [State.Settled]; decide +kernel

theorem witness_LineSetReplacesTheRecord :
    run0.Open ∧ 250 ≤ 250 ∧ (run0.line 15).function = .general ∧ (run0.line 15).activeLevel = .high := by
  and_intros <;> first | exact open0 | decide +kernel

/-- A bay without GUARD, a GUARD of bay 9, a filter time of 251 ms: each breaks one condition at the end of its range. -/
theorem witness_LineSetReplacesTheRecord_refused : run0.Open ∧
    ∀ f ∈ [((0, 1, 0) : Byte × Byte × Byte), (1, 9, 250), (0, 0, 251)],
      ¬ ((1 ≤ (16 : Byte).toNat ∧ (16 : Byte).toNat ≤ 16 ∧ f.1.toNat ≤ 4 ∧ (1 : Byte).toNat ≤ 1 ∧ f.2.2.toNat ≤ 250 ∧
        (2 : Byte).toNat ≤ 2) ∧ (if f.1 = 1 then 1 ≤ f.2.1.toNat ∧ f.2.1.toNat ≤ 8 else f.2.1 = 0) ∧
        (if f.1 = 2 then (0 : Byte) = 1 ∨ (0 : Byte) = 2 else (0 : Byte) = 0)) :=
  ⟨open0, List.forall_mem_cons.2 ⟨by decide, List.forall_mem_cons.2 ⟨by decide, List.forall_mem_singleton.2 (by decide)⟩⟩⟩

theorem witness_LineClearClearsLatches : run0.Open ∧ 2 ^ 16 - 1 < 2 ^ 16 := ⟨open0, by decide⟩

/-- Line 5 with its input HIGH and its filter timer running. -/
def rising : State := run0.modLine 4 (fun l => { l with input := .high, filterTimer := some 0 })

/-- Line 5 of a function, its filter timer run out on a change to ACTIVE, or to INACTIVE. -/
def turning (f : LineFunction) (on : Bool) (s : State) : State :=
  s.modLine 4 (fun l =>
    { l with function := f, activeLevel := if on then .high else .low, input := .high, filterTimer := some 0 })

theorem nobody_checks {s : State} {i : LineIx} (h : ∀ g, (s.channel g).state ≠ .waitCheck) : s.NobodyChecks i :=
  fun g _ _ e => absurd e (h g)

/-- The arc of channel 1 lit, with channel 2 waiting for a booking. -/
def twoRuns : State :=
  (lit0.modChannel 1 (fun c => { c with state := .waitBudget, bay := some 2, inProgress := .pierce 100 1200 3 })).modBudget
    (fun b => { b with waitList := [⟨1, .pierce, 150⟩] })

/-- C2 setting down at bay 8, or waiting for its guard. -/
def settingDown (waits : Bool) : State :=
  crn (travel0 .lowering) .c2 (fun k =>
    { k with state := if waits then .wait else .hoist, waitCause := if waits then some .guard else none, hook := order0.load })

theorem sets_down : (turning (.guard 7) true (settingDown false)).SetsDownAt .c2 7 :=
  ⟨by decide +kernel, 7, { order0 with state := .lowering, crane := some .c2, queuedMs := none }, by decide +kernel,
    by decide +kernel, rfl, rfl⟩

theorem waits_for_guard : (turning (.guard 7) false (settingDown true)).WaitsForGuard .c2 7 :=
  ⟨by decide +kernel, by decide +kernel, 7, { order0 with state := .lowering, crane := some .c2, queuedMs := none },
    by decide +kernel, by decide +kernel, rfl⟩

theorem waits_sound : twoRuns.WaitsSound :=
  ⟨by decide +kernel, fun g => (by decide +kernel : ∀ g, (twoRuns.monitor g).arc ≠ .dark →
    ∀ w ∈ twoRuns.budget.waitList, w.channel ≠ g) g⟩

/-- Line 5 is the one ACTIVE line of bay 8's guard, for which C2 waits with its load. -/
def waitedFor : State := turning (.guard 7) false (settingDown true)

theorem witness_LineSetReplacesTheRecord_rises :
    (twoRuns.Open ∧ twoRuns.SetRises 4 (.guard 0) .low (.guard 0) ∧ twoRuns.SetRises 4 .hallStop .low .hallStop ∧
      twoRuns.WaitsSound ∧ twoRuns.NobodyChecks 4 ∧ (∀ b, ¬ twoRuns.SetFalls 4 (.guard 0) .low (.guard b)) ∧
      twoRuns.NothingToDispatch ∧ (twoRuns.channel 0).bay = some 0 ∧ (twoRuns.channel 0).state = .running ∧
      (twoRuns.monitor 0).arc ≠ .dark) ∧
    (let s := settingDown false;
      s.Open ∧ s.SetRises 4 (.overload .c2) .low (.overload .c2) ∧ s.NobodyChecks 4 ∧ s.NothingToDispatch ∧
      ∀ b, ¬ s.SetFalls 4 (.overload .c2) .low (.guard b)) ∧
    (State.reset.Open ∧ State.reset.SetRises 4 .wake .low .wake ∧ State.reset.hall.state = .park ∧
      State.reset.hallStopActive = false ∧ State.reset.link.silent = false) := by
  simp only [State.SetRises, State.SetFalls, State.AloneIn, State.NothingToDispatch]
  and_intros <;> first
    | exact openAt (by decide +kernel)
    | exact nobody_checks (by decide +kernel)
    | exact waits_sound
    | decide +kernel
    | exact fun b h => absurd h.2.1.1 (by cases b using Fin.cases <;> decide +kernel)

theorem witness_LineSetReplacesTheRecord_waits : waitedFor.WaitsForGuard .c2 7 := waits_for_guard

theorem witness_LineSetReplacesTheRecord_falls :
    waitedFor.Open ∧ waitedFor.NobodyChecks 4 ∧ waitedFor.NothingToDispatch ∧ waitedFor.SetFalls 4 .general .low (.guard 7) ∧
      (∀ f, f ≠ .general → ¬ waitedFor.SetRises 4 .general .low f) ∧ waitedFor.SetFalls 4 (.guard 0) .low (.guard 7) ∧
      waitedFor.SetRises 4 (.guard 0) .low (.guard 0) ∧ waitedFor.SetFalls 4 (.overload .c2) .low (.guard 7) ∧
      waitedFor.SetRises 4 (.overload .c2) .low (.overload .c2) ∧ (waitedFor.crane .c2).hook ≠ none ∧
      (∀ n o, (waitedFor.crane .c2).order = some n → waitedFor.order n = some o → o.state ≠ .lifting) := by
  have order : ∀ n, (waitedFor.crane .c2).order = some n → n = 7 := fun n h => by
    rw [(by decide +kernel : (waitedFor.crane .c2).order = some 7)] at h; exact (Option.some.inj h).symm
  have lowers : (waitedFor.order 7).map (·.state) = some .lowering := by decide +kernel
  simp only [State.SetRises, State.SetFalls, State.AloneIn, State.NothingToDispatch]
  and_intros <;> first
    | exact openAt (by decide +kernel)
    | exact nobody_checks (by decide +kernel)
    | decide +kernel
    | exact fun f h e => h e.2.2.1.symm
    | skip
  intro n o hn ho
  rw [order n hn] at ho
  rw [ho] at lowers
  intro h
  rw [Option.map_some, h] at lowers
  exact absurd (Option.some.inj lowers) (by decide)

/-- The function of line 16 stays GENERAL and its level changes: no aggregate has part in it. -/
theorem witness_LineSetReplacesTheRecord_nothing : run0.Open ∧ run0.NobodyChecks 15 ∧
    (∀ f, f ≠ .general → ¬ run0.SetRises 15 .general .low f) ∧ ∀ b, ¬ run0.SetFalls 15 .general .low (.guard b) :=
  ⟨open0, nobody_checks (by decide +kernel), fun f h e => h e.2.2.1.symm, fun b e =>
    absurd (e.2.1.1.symm.trans (by decide +kernel : (run0.line 15).function = .general)) (by simp)⟩

theorem witness_LineInputIsFiltered :
    (run0.Settled ∧ (run0.line 4).filterTimer = none ∧ .high ≠ (run0.line 4).filtered ∧ (run0.line 4).filterTime ≠ 0) ∧
    (rising.Settled ∧ (rising.line 4).filterTimer = some 0 ∧ .low = (rising.line 4).filtered) ∧
    ((rising.line 4).function = .general ∧ ∀ g, (rising.channel g).state ≠ .waitCheck) ∧
    let s := run0.modLine 4 (fun l => { l with filterTime := 0 })
    s.Settled ∧ (s.line 4).filterTimer = none ∧ .high ≠ (s.line 4).filtered ∧ (s.line 4).filterTime = 0 := by
  simp only [State.Settled]; decide +kernel

/-- What each row of witness_LineInputIsFiltered_aggregate asks of line 5 and of the state around it. -/
def Turns (f : LineFunction) (on : Bool) (s : State) : Prop :=
  let t := turning f on s
  t.Settled ∧ (t.line 4).filterTimer = some 0 ∧ (t.line 4).function = f ∧ t.AloneIn 4 f ∧ t.NobodyChecks 4 ∧
    if on then (t.line 4).filtered ≠ (t.line 4).activeLevel ∧ (t.line 4).input = (t.line 4).activeLevel
    else (t.line 4).filtered = (t.line 4).activeLevel ∧ (t.line 4).input ≠ (t.line 4).activeLevel

theorem witness_LineInputIsFiltered_aggregate :
    (Turns (.guard 0) true twoRuns ∧ twoRuns.NothingToDispatch) ∧
    (Turns (.guard 7) true (settingDown false) ∧ (settingDown false).NothingToDispatch) ∧
    (Turns (.guard 7) false (settingDown true) ∧ (settingDown true).NothingToDispatch) ∧ Turns .hallStop true twoRuns ∧
    (Turns (.overload .c2) true (settingDown false) ∧ ((settingDown false).crane .c2).hook ≠ none) ∧
    (Turns .wake true State.reset ∧ (turning .wake true State.reset).hall.state = .park ∧
      (turning .wake true State.reset).hallStopActive = false ∧ (turning .wake true State.reset).link.silent = false) := by
  simp only [Turns, State.Settled, State.AloneIn, State.NothingToDispatch]
  and_intros <;> first
    | exact nobody_checks (by decide +kernel)
    | decide +kernel

/-! ### Bays -/

/-- Bay 1's plate names remnant record 0. -/
def named0 : State :=
  ((bay0 rack0 .cut).modBay 0 (fun k => { k with plate := some { plateA with remnant := some 0 } })).modRemnant 0 (fun r =>
    { r with state := .inBay, slot := none, bay := some 0 })
def remnantA : Remnant := ⟨.stocked, 3, 7, 20, 500, 600, 460, 560, some ⟨0, 0⟩, none, none, 29, none⟩

theorem witness_BayDeclarePlacesAPlate :
    (run0.Open ∧ ¬ (1 ≤ 9 ∧ 9 ≤ 8 ∧ 31 ≤ 31 ∧ 3 ≤ 150 ∧ 150 ≤ 150 ∧ 500 ≤ 4000 ∧ 4000 ≤ 4000 ∧ 1000 ≤ 16000 ∧ 16000 ≤ 16000)) ∧
    ((3 ≤ 3 ∧ 3 ≤ 150) ∧ (500 ≤ 4000 ∧ 4000 ≤ 4000) ∧ (1000 ≤ 16000 ∧ 16000 ≤ 16000)) ∧
    (run0.heat 3 = some heatA ∧ (run0.bay 1).state = .empty) ∧ run0.heat 31 = none ∧
    (run0.heat 3 ≠ none ∧ ((ordered .queued none).bay 7).state = .loading) ∧
    (run0.heat 3 ≠ none ∧ (run0.bay 0).state ≠ .empty ∧ (run0.bay 0).state ≠ .loading ∧ (run0.bay 0).state ≠ .unloading) := by
  and_intros <;> first | exact open0 | decide +kernel

theorem witness_BayAcceptAndBayClear :
    ((bay0 run0 .placed).Open ∧ ((bay0 run0 .placed).bay 0).state = .placed ∧
      ((bay0 run0 .mismatch).bay 0).state = .mismatch ∧ ((bay0 run0 .loading).bay 0).state = .loading ∧
      ((bay0 run0 .unloading).bay 0).state = .unloading ∧ (run0.bay 0).state = .burning ∧ (run0.bay 7).state = .empty) ∧
    ((bay0 run0 .cut).Open ∧ ((bay0 run0 .cut).bay 0).plate = some plateA ∧ ((bay0 run0 .cut).bay 0).state = .cut ∧
      plateA.remnant = none) ∧
    ((named0.bay 0).plate = some { plateA with remnant := some 0 } ∧ (named0.bay 0).state = .cut ∧
      named0.remnant 0 = some { remnantA with state := .inBay, slot := none, bay := some 0 }) := by
  and_intros <;> first | exact openAt (by decide +kernel) | decide +kernel

def rackTooNear : Layout := { Layout.reset with racks := put Layout.reset.racks 0 107000 }

theorem layout_reset : Layout.reset.InRange ∧ Layout.reset.Meets 2000 ⟨0, 120000⟩ :=
  ⟨⟨by decide +kernel, by decide +kernel, by decide +kernel⟩, ⟨by decide +kernel, by decide +kernel, by decide +kernel, by
    rintro b p (rfl | rfl | ⟨r, rfl⟩)
    · revert b; decide +kernel
    · revert b; decide +kernel
    · revert b r; decide +kernel, by decide +kernel⟩⟩

/-- R3: a rack 1 at 107 000 lies in bay 8's widened interval. -/
theorem layout_rack_too_near : rackTooNear.InRange ∧ ¬ rackTooNear.Meets 2000 ⟨0, 120000⟩ :=
  ⟨⟨by decide +kernel, by decide +kernel, by decide +kernel⟩, fun h =>
    absurd (h.clear 7 107000 (.inr (.inr ⟨0, by decide +kernel⟩))) (by decide +kernel)⟩

theorem witness_SettingsAreReplacedWhole :
    (run0.Open ∧ 10 ≤ 255 ∧ ((8 = 4 ∧ 10 = 5) ∨ (8 = 8 ∧ 10 = 10)) ∧ ¬ ((4 = 4 ∧ 10 = 5) ∨ (4 = 8 ∧ 10 = 10))) ∧
    (¬ ({ Layout.reset with runwayEnd := 39999 } : Layout).InRange ∧ 39999 < 2 ^ 32 ∧
      (∀ b, (Layout.reset.bays.get b).first < 2 ^ 32 ∧ (Layout.reset.bays.get b).last < 2 ^ 32) ∧
      Layout.reset.intake < 2 ^ 32 ∧ (∀ r, Layout.reset.racks.get r < 2 ^ 32) ∧ Layout.reset.offload < 2 ^ 32) ∧
    (Layout.reset.InRange ∧ run0.hall.state ≠ .park ∧ State.reset.hall.state = .park ∧
      Layout.reset.Meets State.reset.settings.margin State.reset.settings.park) ∧
    (rackTooNear.InRange ∧ ¬ rackTooNear.Meets State.reset.settings.margin State.reset.settings.park) ∧
    (4 < 256 ∧ (4 ≤ 4 ∧ 10 ≤ 500 ∧ 500 ≤ 500 ∧ 16 ≤ 255 ∧ 16 ≤ 64 ∧ 64 ≤ 64 ∧ 1 ≤ 64 ∧ 64 ≤ 64 ∧ 500 ≤ 5000 ∧ 5000 ≤ 5000 ∧ 3 ≤ 3) ∧
      ¬ (5 ≤ 4 ∧ 10 ≤ 500)) := by
  and_intros <;> first
    | exact open0
    | exact layout_reset.1
    | exact layout_reset.2
    | exact layout_rack_too_near.1
    | exact layout_rack_too_near.2
    | exact fun h => absurd h.runwayEnd (by decide +kernel)
    | decide +kernel

/-- Bay 1 one READ short of declaring codeB under the rule 4 of 5. -/
def reading (x : BayState) : State :=
  (bay0 run0 x).modBay 0 (fun k => { k with history := [.code codeB, .unreadable, .code codeB, .code codeB] })

theorem witness_GantryReadDeclaresTheCode :
    ((3 : Byte).toNat ≠ 2 * (0 : Gantry).val + 1 ∧ (3 : Byte).toNat ≠ 2 * (0 : Gantry).val + 2) ∧
    ((run0.bay 7).state = .empty ∧ ((ordered .queued none).bay 7).state = .loading) ∧
    (((reading .ready).bay 0).state ≠ .empty ∧ ((reading .ready).bay 0).state ≠ .loading) ∧
    ¬ ((reading .ready).bayTable.readerK ≤ ([.code codeB, .unreadable, .code codeB, .code codeB, .code codeA] : List Read).count
      (Read.code codeA)) ∧
    (codeB.all isCodeChar = true ∧
      (reading .ready).bayTable.readerK ≤
        (((reading .ready).bay 0).history.drop (((reading .ready).bay 0).history.length + 1 - (reading .ready).bayTable.readerN) ++
          [Read.code codeB]).count (Read.code codeB) ∧
      ((reading .ready).bay 0).lastDeclared ≠ some codeB ∧ ((reading .ready).bay 0).state = .ready ∧
      ((reading .ready).bay 0).plate = some plateA ∧ (reading .ready).heat plateA.heat = some heatA) ∧
    ((reading .cut).bay 0).state = .cut := by decide +kernel

/-! ### Channels -/

/-- Channel 1 HELD with a number of steps in its buffer. -/
def stored (n : Nat) : State := chan held0 (fun c => { c with buffer := List.replicate n .finish })
/-- The same with a surge percent that puts a pierce of 400 A above the limit. -/
def surged (n : Nat) : State := (stored n).modBudget (fun b => { b with surge := 250 })
def piercing : Step := .pierce 400 2500 10000
def starving : State := chan run0 (fun c => { c with state := .starved })

theorem fits_stored (n : Nat) : ∀ current setpoint dwell, Step.pierce current setpoint dwell ∈ [piercing] →
    (current * (stored n).budget.surge + 99) / 100 ≤ (stored n).budget.limit := by
  intro current setpoint dwell h
  simp only [piercing, List.mem_singleton, Step.pierce.injEq] at h
  rw [h.1]
  exact (by decide : (400 * 150 + 99) / 100 ≤ 600)

/-- An x past its range that fits its three bytes, a count of 13, and a record of kind 10. -/
theorem witness_StepsJoinTheBuffer_refused : run0.Open ∧
    ((1 ≤ [Step.travel 160001 0 0].length ∧ [Step.travel 160001 0 0].length ≤ 12) ∧
      (∀ p ∈ [Step.travel 160001 0 0], p.Fits) ∧ ∃ p ∈ [Step.travel 160001 0 0], ¬ p.InRange) ∧
    ((List.replicate 208 (0 : Byte)).length = 16 * (13 : Byte).toNat ∧ 12 < (13 : Byte).toNat) ∧
    ((10 :: List.replicate 15 (0 : Byte)).length = 16 * (1 : Byte).toNat ∧
      ∃ i, i < (1 : Byte).toNat ∧ ((10 :: List.replicate 15 (0 : Byte)).getD (16 * i) 0).toNat ∉ stepKinds) :=
  ⟨open0, ⟨by decide, by simp [Step.Fits], by simp [Step.InRange]⟩, by decide +kernel, by decide +kernel, 0, by decide +kernel⟩

theorem witness_StepsJoinTheBuffer :
    (held0.Open ∧ (∀ p ∈ [piercing], p.InRange) ∧ (1 ≤ [piercing].length ∧ [piercing].length ≤ 12)) ∧
    (((surged 0).channel 0).buffer.length ≤ 48 ∧ ¬ ∀ current setpoint dwell, Step.pierce current setpoint dwell ∈ [piercing] →
      (current * (surged 0).budget.surge + 99) / 100 ≤ (surged 0).budget.limit) ∧
    ((∀ current setpoint dwell, Step.pierce current setpoint dwell ∈ [piercing] →
      (current * (stored 48).budget.surge + 99) / 100 ≤ (stored 48).budget.limit) ∧
      48 < ((stored 48).channel 0).buffer.length + [piercing].length) ∧
    ((∀ current setpoint dwell, Step.pierce current setpoint dwell ∈ [piercing] →
      (current * (stored 47).budget.surge + 99) / 100 ≤ (stored 47).budget.limit) ∧
      ((stored 47).channel 0).buffer.length + [piercing].length ≤ 48 ∧ ((stored 47).channel 0).state ≠ .starved ∧
      (((stored 47).channel 0).state = .running → ((stored 47).channel 0).inProgress ≠ .none)) ∧
    (starving.Open ∧ (160000 ≤ 160000 ∧ 45000 ≤ 45000 ∧ 40000 ≤ 40000) ∧ (starving.channel 0).state = .starved ∧
      (starving.channel 0).buffer = [] ∧ (starving.channel 0).inProgress = .none ∧ (starving.channel 0).window.length < 3 ∧
      (starving.monitor 0).arc = .dark) := by
  and_intros <;> first
    | exact openAt (by decide +kernel)
    | exact fits_stored _
    | exact fun p hp => by
        rw [List.mem_singleton.mp hp]; simp [piercing, Step.InRange]
    | exact fun h => absurd (h 400 2500 10000 (by simp [piercing])) (by decide +kernel)
    | decide +kernel

/-- Hall RUN, bay 1 READY, channel 1 IDLE with a healthy gantry. -/
def startable : State := (chan run0 (fun _ => { Channel.reset with gantryTimer := some 4 })).modBay 0 (fun k => { k with state := .ready })
def guarded (s : State) : State := s.modLine 3 (fun l => { l with function := .guard 0, activeLevel := .low })
/-- C2 carries a load over bay 1. -/
def overloaded : State := crn startable .c2 (fun k => { k with hook := order0.load, state := .idle, position := 12000 })

def holding (steps : List Step) (s : State) : State := chan s (fun c => { c with buffer := steps })

theorem witness_StartBeginsARun :
    startable.Open ∧ gantryOfBay 7 ≠ 0 ∧ gantryOfBay 0 = 0 ∧
    ¬ ((run0.channel 0).state = .idle ∧ (run0.hall.state = .run ∨ run0.hall.state = .purge) ∧
      (run0.channel 0).gantryTimer ≠ none ∧ (run0.channel 0).gantryCode = 0) ∧
    ((startable.channel 0).state = .idle ∧ (startable.hall.state = .run ∨ startable.hall.state = .purge) ∧
      (startable.channel 0).gantryTimer ≠ none ∧ (startable.channel 0).gantryCode = 0) ∧
    ((bay0 startable .cut).bay 0).state ≠ .ready ∧
    ((overloaded.bay 0).state = .ready ∧ overloaded.overhead 0 = true) ∧
    ((startable.bay 0).state = .ready ∧ startable.overhead 0 = false ∧ (startable.channel 0).buffer = [] ∧
      (startable.monitor 0).arc = .dark ∧ ∀ w ∈ startable.budget.waitList, w.channel ≠ 0) ∧
    ((guarded startable).guardActive 0 = true ∧ startable.guardActive 0 = false) ∧
    ((holding [.travel 160000 45000 40000] startable).channel 0).buffer = .travel 160000 45000 40000 :: [] ∧
    ((400 * startable.budget.surge + 99) / 100 ≤ startable.budget.limit ∧ startable.budget.causes = ⟨false, none⟩ ∧
      startable.budget.waitList = [] ∧ startable.budget.total + (400 * startable.budget.surge + 99) / 100 ≤ startable.budget.limit ∧
      ((holding [piercing, .finish] startable).channel 0).buffer = .pierce 400 2500 10000 :: [.finish]) ∧
    (startable.modBudget (fun b => { b with total := 1 })).budget.limit < 1 + (400 * startable.budget.surge + 99) / 100 := by
  and_intros <;> first | exact openAt (by decide +kernel) | decide +kernel

theorem waits_behind_travel : waitsBehindTravel [] ∧ waitsBehindTravel [piercing, .finish] :=
  ⟨.inl rfl, .inr ⟨_, _, _, _, rfl⟩⟩

/-- Channel 1 in the middle of a CUT, its entry frozen, the reentry flag set, and the gate CLOSED by the load. -/
def recutting : State :=
  (chan held0 (fun c =>
    { c with
      frozen := true
      reentry := true
      window := [⟨3, .motion (.cutLine 5 6 700 400 1300), none, none⟩] })).modBudget (fun b => { b with causes := ⟨true, none⟩ })
/-- Channel 1 HELD with a PIERCE in progress under a CLOSED gate. -/
def repiercing : State :=
  (chan held0 (fun c => { c with inProgress := .pierce 400 1200 3 })).modBudget (fun b => { b with causes := ⟨true, none⟩ })
def waiting : State :=
  (chan run0 (fun c => { c with state := .waitBudget, inProgress := .pierce 100 1200 3 })).modBudget (fun b =>
    { b with waitList := [⟨0, .pierce, 150⟩], causes := ⟨true, none⟩ })

theorem witness_HoldKeepsTheRun :
    (run0.Open ∧ (State.reset.channel 0).state = .idle ∧ (held0.channel 0).state = .held ∧ (ending0.channel 0).state = .ending) ∧
    (lit0.Open ∧ (lit0.channel 0).state ≠ .idle ∧ (lit0.channel 0).state ≠ .held ∧ (lit0.channel 0).state ≠ .ending ∧
      ((lit0.monitor 0).arc ≠ .dark → ∀ w ∈ lit0.budget.waitList, w.channel ≠ 0)) ∧
    (waiting.Open ∧ (waiting.channel 0).state ≠ .idle ∧ (waiting.channel 0).state ≠ .held ∧ (waiting.channel 0).state ≠ .ending ∧
      ((waiting.monitor 0).arc ≠ .dark → ∀ w ∈ waiting.budget.waitList, w.channel ≠ 0)) := by
  and_intros <;> first | exact openAt (by decide +kernel) | decide +kernel

/-- Channel 1 HELD with four TRAVELs in its frozen window. -/
def resending : State :=
  chan held0 (fun c =>
    { c with
      frozen := true
      window := [(1, 2, 3), (4, 5, 6), (7, 8, 9), (160000, 45000, 40000)].map (fun m =>
        ⟨7, .motion (.travel m.1 m.2.1 m.2.2), none, none⟩) })

/-- R43: what lets a RESUME of channel 1 through. -/
def MayResume (s : State) : Prop :=
  (s.channel 0).state = .held ∧ (s.channel 0).haltTimer = none ∧ (s.hall.state = .run ∨ s.hall.state = .purge) ∧
    ∀ b, (s.channel 0).heldCause = some .guard → (s.channel 0).bay = some b → s.guardActive b = false

theorem witness_ResumeTakesTheRunUp :
    (run0.Open ∧ ¬ MayResume run0) ∧
    (held0.Open ∧ MayResume held0 ∧ (held0.channel 0).window = [] ∧ (held0.channel 0).inProgress = .none ∧
      (held0.channel 0).buffer = [] ∧ (held0.channel 0).endConsumed = false ∧ (held0.monitor 0).arc = .dark) ∧
    ((holding [.travel 0 0 0, piercing] held0).Open ∧ MayResume (holding [.travel 0 0 0, piercing] held0) ∧
      ((holding [.travel 0 0 0, piercing] held0).channel 0).buffer = .travel 0 0 0 :: [piercing]) ∧
    (resending.Open ∧ MayResume resending ∧ (resending.channel 0).frozen = true ∧ (resending.channel 0).window ≠ [] ∧
      (resending.channel 0).window.length ≤ 4 ∧ (resending.channel 0).window.map (·.step) =
        [(1, 2, 3), (4, 5, 6), (7, 8, 9), (160000, 45000, 40000)].map (fun m => .motion (.travel m.1 m.2.1 m.2.2)) ∧
      (resending.channel 0).inProgress = .none ∧ (resending.channel 0).buffer = [] ∧
      (resending.channel 0).endConsumed = false ∧ (resending.monitor 0).arc = .dark) ∧
    (repiercing.Open ∧ MayResume repiercing ∧ (repiercing.channel 0).window = [] ∧
      (repiercing.channel 0).inProgress = .pierce 400 1200 3 ∧ repiercing.budget.causes ≠ ⟨false, none⟩ ∧
      (400 * repiercing.budget.surge + 99) / 100 ≤ repiercing.budget.limit) ∧
    (recutting.Open ∧ MayResume recutting ∧ (recutting.channel 0).frozen = true ∧ (recutting.channel 0).reentry = true ∧
      (recutting.channel 0).activeCut = some (400, 1300) ∧ recutting.budget.causes ≠ ⟨false, none⟩ ∧
      (400 * recutting.budget.surge + 99) / 100 ≤ recutting.budget.limit) := by
  simp only [MayResume]
  and_intros <;> first | exact openAt (by decide +kernel) | decide +kernel

theorem witness_RunEndsLeaveTheChannelEmpty :
    (State.reset.Open ∧ (State.reset.channel 0).state = .idle) ∧
    (lit0.Open ∧ (lit0.channel 0).state ≠ .idle ∧ (lit0.channel 0).bay = some 0 ∧
      ((lit0.monitor 0).arc ≠ .dark → ∀ w ∈ lit0.budget.waitList, w.channel ≠ 0) ∧ (lit0.channel 0).gantryTimer ≠ none ∧
      (255 : Byte) ≠ 0) ∧
    (let s := chan held0 (fun c => { c with haltTimer := some 0 });
      (s.channel 0).state ≠ .idle ∧ (s.channel 0).bay = some 0 ∧ (s.monitor 0).arc = .dark ∧ (s.channel 0).haltTimer ≠ none) ∧
    (let s := chan run0 (fun c => { c with state := .waitCheck, inProgress := .check 0 true 5, checkTimer := some 0 });
      (s.channel 0).state ≠ .idle ∧ (s.channel 0).bay = some 0 ∧ (s.monitor 0).arc = .dark ∧ (s.channel 0).checkTimer ≠ none) ∧
    (run0.channel 0).haltTimer = none ∧ (run0.channel 0).checkTimer = none ∧ (State.reset.channel 0).gantryTimer = none := by
  and_intros <;> first | exact openAt (by decide +kernel) | decide +kernel

/-! ### Gantry messages and arcs -/

theorem notMark {p q : InProgress} (e : p = q) (h : (match q with | .mark .. => false | _ => true) = true) :
    ∀ x y part height current volts stage, p ≠ .mark x y part height current volts stage := by
  rintro _ _ _ _ _ _ _ rfl
  subst e
  cases h

/-- A halt of channel 1 is awaited. -/
def awaited : State := chan held0 (fun c => { c with haltTimer := some 3, window := [⟨4, .markMove, none, none⟩] })

theorem witness_GantryReportsMoveTheWindow :
    (run0.Settled ∧ ((run0.channel 0).frozen = true ∨ (run0.channel 0).haltTimer ≠ none ∨
      ∀ e ∈ (run0.channel 0).window, e.seq ≠ 7)) ∧
    (awaited.Settled ∧ (awaited.channel 0).haltTimer ≠ none ∧ (run0.channel 0).haltTimer = none) ∧
    (ending0.Settled ∧ (ending0.channel 0).state = .ending ∧ (ending0.channel 0).frozen = false ∧
      (ending0.channel 0).haltTimer = none ∧ (ending0.channel 0).inProgress = .none ∧ (ending0.monitor 0).arc = .dark ∧
      (ending0.channel 0).bay = some 0) ∧
    (let e (n : Byte) : WindowEntry := ⟨n, .motion (.travel 1 2 3), none, none⟩;
      ((ending0.channel 0).window = [e 5] ++ e 6 :: [e 7] ∧ (e 6).seq = 6 ∧ (∀ d ∈ [e 5], d.seq ≠ 6) ∧
        (∀ d ∈ [e 5] ++ [e 6], ∃ step, d.step = .motion step)) ∧
      ((ending0.channel 0).window = [e 5, e 6] ++ e 7 :: [] ∧ (e 7).seq = 7 ∧ (∀ d ∈ [e 5, e 6], d.seq ≠ 7) ∧
        (∀ d ∈ [e 5, e 6] ++ [e 7], ∃ step, d.step = .motion step))) := by
  simp only [State.Settled]
  and_intros <;> first
    | decide +kernel
    | (intro d hd; simp at hd; rcases hd with rfl | rfl | rfl <;> exact ⟨_, rfl⟩)
    | (intro d hd; simp at hd; rcases hd with rfl | rfl <;> exact ⟨_, rfl⟩)

/-- The arc of channel 1 STRIKING for a MARK on bay 1, one good sample short of 48. -/
def marking : State := chan strike0 (fun c => { c with inProgress := .mark 5 6 7 10 20 1200 .striking })
/-- The same with the heat exhausted. -/
def exhausted : State := marking.modHeat 3 (fun e => { e with next := 100000 })
def written : TraceRecord := ⟨1, 0, 0, 3, heatA.code, some 1, 7, .writing⟩
/-- The text of that mark being written. -/
def writing : State :=
  chan lit0 (fun c =>
    { c with inProgress := .mark 5 6 7 10 20 1200 (.writing written), window := [⟨9, .markText, some ⟨5, 6⟩, none⟩] })

/-- The clauses about marks of SamplesJudgeTheArc (a serial, an exhausted heat), of StrikeAndDwellTimersAct (a strike that fails) and
of GantryReportsMoveTheWindow (a text that is done), in this order. -/
theorem witness_SamplesJudgeTheArc_marks :
    (marking.Settled ∧ (marking.monitor 0).arc = .striking ∧ (marking.monitor 0).setpoint = some 1200 ∧
      (marking.channel 0).params.stableCount ≤ bump8 (marking.monitor 0).goodCount ∧
      (marking.channel 0).inProgress = .mark 5 6 7 10 20 1200 .striking ∧ (marking.channel 0).bay = some 0 ∧
      (marking.bay 0).plate = some plateA ∧ marking.heat plateA.heat = some heatA ∧ heatA.next < 100000) ∧
    (exhausted.heat plateA.heat = some { heatA with next := 100000 } ∧ exhausted.MarksAlone 0 ∧
      (exhausted.channel 0).window = []) ∧
    (let s := arc marking (fun m => { m with retryCount := 2 });
      s.Settled ∧ (s.monitor 0).strikeTimer ≠ none ∧ (s.channel 0).params.strikeRetries ≤ (s.monitor 0).retryCount ∧
      s.MarksAlone 0 ∧ (s.channel 0).window = [] ∧ (s.channel 0).inProgress = .mark 5 6 7 10 20 1200 .striking) ∧
    (writing.Settled ∧ writing.MarksAlone 0 ∧ (writing.channel 0).frozen = false ∧ (writing.channel 0).haltTimer = none ∧
      (writing.channel 0).inProgress = .mark 5 6 7 10 20 1200 (.writing written) ∧ written.channel = 0 ∧
      writing.heat written.heat = some heatA ∧ (writing.channel 0).window = [⟨9, .markText, some ⟨5, 6⟩, none⟩]) := by
  simp only [State.Settled]
  and_intros <;> first
    | exact ⟨by decide +kernel, by decide +kernel, by decide +kernel⟩
    | decide +kernel

/-- The arc of channel 1 STABLE, or DISTURBED with n BAD samples last. -/
def disturbed (n : Nat) : State :=
  arc lit0 (fun m => { m with arc := .disturbed, heightHold := true, samples := List.replicate n .bad, badCount := n })

theorem witness_SamplesJudgeTheArc :
    (run0.Settled ∧ (run0.monitor 0).arc = .dark) ∧
    (strike0.Settled ∧ (strike0.monitor 0).setpoint = some 1200 ∧ (strike0.monitor 0).arc = .striking ∧
      ¬ (1281 ≠ 0 ∧ 1200 ≤ 1281 + (strike0.channel 0).params.band ∧ 1281 ≤ 1200 + (strike0.channel 0).params.band)) ∧
    ((1120 ≠ 0 ∧ 1200 ≤ 1120 + (strike0.channel 0).params.band ∧ 1120 ≤ 1200 + (strike0.channel 0).params.band) ∧
      (strike0.channel 0).params.stableCount ≤ bump8 (strike0.monitor 0).goodCount ∧
      (strike0.channel 0).inProgress = .pierce 100 1200 30 ∧ 30 ≠ 0) ∧
    (let s := arc strike0 (fun m => { m with goodCount := 46 });
      (s.monitor 0).arc = .striking ∧ bump8 (s.monitor 0).goodCount < (s.channel 0).params.stableCount) ∧
    (lit0.Settled ∧ (lit0.monitor 0).setpoint = some 1200 ∧ (lit0.monitor 0).arc = .stable ∧
      ([.bad] : List Quality).count .bad < (lit0.channel 0).params.lossCount) ∧
    (let s := arc lit0 (fun m => { m with arc := .disturbed, samples := .bad :: List.replicate 47 .good, badCount := 1 });
      (s.monitor 0).arc = .disturbed ∧ ((s.monitor 0).samples.drop ((s.monitor 0).samples.length + 1 - (s.channel 0).params.window) ++
        [Quality.good]).count Quality.bad = 0) ∧
    ((disturbed 9).Settled ∧ ((disturbed 9).monitor 0).arc = .disturbed ∧
      ((disturbed 9).channel 0).params.lossCount ≤ (List.replicate 9 Quality.bad ++ [Quality.bad]).count Quality.bad ∧
      (∀ w ∈ (disturbed 9).budget.waitList, w.channel ≠ 0) ∧
      ∀ x y part height current volts stage,
        ((disturbed 9).channel 0).inProgress ≠ .mark x y part height current volts stage) := by
  simp only [State.Settled]
  and_intros <;> first
    | decide +kernel
    | exact notMark (by decide +kernel : ((disturbed 9).channel 0).inProgress = .none) rfl

/-- The arc of channel 1 STRIKING with its retries used up. -/
def lastStrike : State := arc strike0 (fun m => { m with retryCount := 2 })
/-- The dwell of a 100 A PIERCE is over and a CUT of 100 A waits. -/
def dwelt : State :=
  (chan lit0 (fun c =>
    { c with inProgress := .pierce 100 1200 30, dwellTimer := some 0, buffer := [.cutLine 5 6 700 100 1300] })).modBudget (fun b =>
      { b with bookings := put b.bookings 0 ⟨.pierce, 150⟩, total := 150 })

theorem witness_StrikeAndDwellTimersAct :
    (strike0.Settled ∧ (strike0.monitor 0).strikeTimer ≠ none ∧
      (strike0.monitor 0).retryCount < (strike0.channel 0).params.strikeRetries ∧
      (strike0.channel 0).inProgress = .pierce 100 1200 30) ∧
    ((lastStrike.monitor 0).strikeTimer ≠ none ∧
      (lastStrike.channel 0).params.strikeRetries ≤ (lastStrike.monitor 0).retryCount ∧ (lastStrike.channel 0).state ≠ .idle ∧
      (lastStrike.channel 0).bay = some 0 ∧ (∀ w ∈ lastStrike.budget.waitList, w.channel ≠ 0) ∧
      ∀ x y part height current volts stage, (lastStrike.channel 0).inProgress ≠ .mark x y part height current volts stage) ∧
    (dwelt.Settled ∧ (dwelt.channel 0).dwellTimer ≠ none ∧ (dwelt.channel 0).state = .running ∧
      (dwelt.channel 0).inProgress = .pierce 100 1200 30 ∧ (dwelt.channel 0).window = [] ∧ (dwelt.channel 0).frozen = false ∧
      (dwelt.channel 0).buffer = [.cutLine 5 6 700 100 1300] ∧ (dwelt.monitor 0).arc = .stable ∧ dwelt.budget.waitList = []) ∧
    (run0.monitor 0).strikeTimer = none ∧ (run0.channel 0).dwellTimer = none := by
  simp only [State.Settled]
  and_intros <;> first
    | decide +kernel
    | exact notMark (by decide +kernel : (lastStrike.channel 0).inProgress = .pierce 100 1200 30) rfl

/-! ### Budget -/

theorem witness_BudgetSetReplacesTheValues :
    (lit0.Open ∧ ¬ (99 ≤ 98) ∧ 65535 < 65536 ∧ 255 < 256) ∧
    ((100 ≤ 100 ∧ 100 ≤ 2000 ∧ 100 ≤ 250 ∧ 250 ≤ 250 ∧ 99 < 100 ∧ 100 ≤ 100) ∧ lit0.budget.total ≤ 100 ∧ lit0.budget.waitList = []) ∧
    100 < dwelt.budget.total := by
  and_intros <;> first | exact openAt (by decide +kernel) | decide +kernel

theorem witness_TotalStaysUnderTheLimit :
    lit0.BudgetBalanced ∧ lit0.budget.total ≤ lit0.budget.limit ∧ 100 ≤ (lit0.booking 0).amount :=
  ⟨(by decide +kernel : lit0.budget.total = lit0.budget.booked), by decide +kernel, by decide +kernel⟩

/-! ### Marking and remnants -/

/-- Every heat entry in use; entry 31 free. -/
def heats32 : State := run0.modComposer (fun c => { c with heats := Vector.replicate 32 (some heatA) })
def heats31 : State := run0.modComposer (fun c => { c with heats := put (Vector.replicate 32 (some heatA)) 31 none })

theorem notKnown {s : State} {code : Code} (h : ∀ i, (s.heat i).map (·.code) ≠ some code) :
    ¬ ∃ i e, s.heat i = some e ∧ e.code = code := by
  rintro ⟨i, e, he, rfl⟩
  exact h i (by rw [he]; rfl)

theorem witness_HeatEntriesOpenCloseAndDrop :
    (run0.Open ∧ codeB.length = 8 ∧ 255 < 256 ∧ 99999 < 2 ^ 32 ∧
      (codeB.all isCodeChar = true ∧ 1 ≤ 255 ∧ 1 ≤ 99999 ∧ 99999 ≤ 99999) ∧ ¬ (codeB.all isCodeChar = true ∧ 1 ≤ 0)) ∧
    (heats32.Open ∧ (¬ ∃ h e, heats32.heat h = some e ∧ e.code = codeB) ∧ ∀ h, heats32.heat h ≠ none) ∧
    (heats31.Open ∧ (¬ ∃ h e, heats31.heat h = some e ∧ e.code = codeB) ∧ heats31.heat 31 = none ∧
      ∀ k, k < 31 → heats31.heat k ≠ none) ∧
    (run0.heat 31 = none ∧ run0.heat 3 = some heatA) := by
  and_intros <;> first
    | exact openAt (by decide +kernel)
    | exact notKnown (by decide +kernel)
    | decide +kernel

theorem witness_CheckSymbolDetectsErrors :
    codeB.length = 8 ∧ codeB.all isCodeChar = true ∧ 99999 ≤ 99999 ∧ 12 < 13 ∧ isCodeChar 0x30 = true ∧
    (codeB ++ serialDigits 99999)[12]? ≠ some 0x30 ∧ (codeB ++ serialDigits 99999)[0]? = some 0x4B ∧
    (codeB ++ serialDigits 99999)[0 + 1]? = some 0x37 ∧ (0x4B : Byte) ≠ 0x37 := by decide +kernel

theorem slotFree {s : State} {k : Slot} (h : ∀ i, (s.remnant i).bind (·.slot) ≠ some k) :
    ∀ i r, s.remnant i = some r → r.slot ≠ some k := by
  intro i r e f
  exact h i (by rw [e]; exact f)

/-- Every remnant record in use. -/
def remnants96 (s : State) : State := s.modRemnants (fun t => { t with records := Vector.replicate 96 (some remnantA) })

theorem witness_RemnantAddStocksAPiece :
    (rack0.Open ∧ ¬ (1 ≤ 5 ∧ 5 ≤ 4) ∧ 255 < 256 ∧ 65535 < 65536) ∧
    ((1 ≤ 7 ∧ 7 ≤ 255) ∧ (3 ≤ 150 ∧ 150 ≤ 150) ∧ (100 ≤ 340 ∧ 340 ≤ 4000) ∧ (100 ≤ 16000 ∧ 16000 ≤ 16000) ∧ 30 ≤ 255) ∧
    (rack0.heat 31 = none ∧ rack0.heat 3 = some heatA ∧ 8 ≠ heatA.grade ∧ 7 = heatA.grade) ∧
    (¬ (rack0.remnants.minDimension + 2 * rack0.remnants.margin ≤ 339 ∧ rack0.remnants.minDimension + 2 * rack0.remnants.margin ≤ 16000) ∧
      rack0.remnants.minDimension + 2 * rack0.remnants.margin ≤ 340 ∧ rack0.remnants.minDimension + 2 * rack0.remnants.margin ≤ 16000) ∧
    ((∃ i r, rack0.remnant i = some r ∧ r.slot = some ⟨0, 0⟩) ∧
      (∀ i r, rack0.remnant i = some r → r.slot ≠ some ⟨3, 23⟩) ∧ ∀ o ∈ rack0.dispatcher.orders, o.dest ≠ .rack ⟨3, 23⟩) ∧
    ((remnants96 rack0).Open ∧ (remnants96 rack0).heat 3 = some heatA ∧ (∀ i, (remnants96 rack0).remnant i ≠ none) ∧
      ∀ i r, (remnants96 rack0).remnant i = some r → r.slot ≠ some ⟨3, 23⟩) ∧
    (rack0.remnant 1 = none ∧ (∀ j, j < 1 → rack0.remnant j ≠ none) ∧ 29 < rack0.remnants.expiryCount ∧
      rack0.remnants.expiryCount ≤ 30) := by
  and_intros <;> first
    | exact openAt (by decide +kernel)
    | exact slotFree (by decide +kernel)
    | exact ⟨0, remnantA, by decide +kernel, by decide +kernel⟩
    | decide +kernel

theorem witness_RemnantFromBayRecordsWhatIsLeft :
    ((100 ≤ 340 ∧ 340 ≤ 4000) ∧ (100 ≤ 2000 ∧ 2000 ≤ 16000)) ∧
    (run0.Open ∧ (run0.bay 0).state ≠ .cut) ∧
    ((bay0 rack0 .cut).Open ∧ ((bay0 rack0 .cut).bay 0).state = .cut ∧ ((bay0 rack0 .cut).bay 0).plate = some plateA ∧
      ¬ (2001 ≤ plateA.width ∧ 6001 ≤ plateA.length ∨ 2001 ≤ plateA.length ∧ 6001 ≤ plateA.width) ∧
      (340 ≤ plateA.width ∧ 2000 ≤ plateA.length) ∧ rack0.remnants.minDimension + 2 * rack0.remnants.margin ≤ 340 ∧
      ¬ rack0.remnants.minDimension + 2 * rack0.remnants.margin ≤ 339 ∧ plateA.remnant = none ∧
      (bay0 rack0 .cut).remnant 1 = none ∧ (∀ j, j < 1 → (bay0 rack0 .cut).remnant j ≠ none) ∧
      (bay0 rack0 .cut).heat plateA.heat = some heatA) ∧
    (∀ i, (remnants96 (bay0 rack0 .cut)).remnant i ≠ none) ∧
    (named0.Open ∧ (named0.bay 0).state = .cut ∧ (named0.bay 0).plate = some { plateA with remnant := some 0 } ∧
      named0.remnant 0 = some { remnantA with state := .inBay, slot := none, bay := some 0 } ∧
      named0.heat remnantA.heat = some heatA) := by
  and_intros <;> first | exact openAt (by decide +kernel) | decide +kernel

/-- The remnant of rack 1 RESERVED, at an age. -/
def reserved (age : Nat) : State := rack0.modRemnant 0 (fun r => { r with state := .reserved, tag := some 65535, age })

theorem witness_RemnantRecordsChangeHands :
    (rack0.Open ∧ 1 ≤ 65535 ∧ 65535 ≤ 65535) ∧ (∀ r, run0.remnant 0 = some r → r.state ≠ .stocked ∧ r.state ≠ .expired) ∧
    (∀ r, run0.remnant 0 = some r → r.state ≠ .reserved) ∧
    ((∀ r, (reserved 29).remnant 0 = some r → r.state ≠ .stocked) ∧ (∀ r, rack0.remnant 0 = some r → r.state ≠ .reserved)) ∧
    (rack0.remnant 0 = some remnantA ∧ remnantA.state = .stocked ∧ rack0.heat remnantA.heat = some heatA) ∧
    ((reserved 29).Open ∧ (reserved 29).remnant 0 = some { remnantA with state := .reserved, tag := some 65535 } ∧
      29 < (reserved 29).remnants.expiryCount) ∧
    ((reserved 30).Open ∧ (reserved 30).remnant 0 = some { remnantA with state := .reserved, tag := some 65535, age := 30 } ∧
      (reserved 30).remnants.expiryCount ≤ 30) := by
  and_intros <;> first
    | exact openAt (by decide +kernel)
    | decide +kernel
    | (intro r h; rw [(by decide +kernel : run0.remnant 0 = none)] at h; cases h)
    | (intro r h; rw [(by decide +kernel : rack0.remnant 0 = some remnantA)] at h; cases h; decide)
    | (intro r h
       rw [(by decide +kernel : (reserved 29).remnant 0 = some { remnantA with state := .reserved, tag := some 65535 })] at h
       cases h
       decide)

theorem witness_StockAgesAndExpires :
    (rack0.remnants.agingTimer = some 86400000 ∧ (rack0.remnant 0).map (·.state) = some .stocked ∧
      rack0.remnants.expiryCount ≤ min 255 (29 + 1)) ∧
    (rack0.modRemnants (fun t => { t with agingTimer := none })).remnants.agingTimer = none ∧
    (rack0.Open ∧ 101 < 256 ∧ ¬ (101 ≤ 100 ∧ 100 ≤ 1000)) ∧
    (100 ≤ 100 ∧ (100 ≤ 1000 ∧ 1000 ≤ 1000) ∧ 1440 ≤ 1440 ∧ (1 ≤ 255 ∧ 255 ≤ 255)) := by
  and_intros <;> first | exact openAt (by decide +kernel) | decide +kernel

/-! ### Orders -/

def paused : State := inHall run0 .pause
/-- The order queue full. -/
def queued16 : State := paused.modDispatcher (fun d => { d with orders := List.replicate 16 order0 })

/-- A DELIVER that names no crane; a LOAD_NEW of heat 32. -/
theorem witness_OrderSubmitTakesOrRefusesAnOrder_badField : paused.Open ∧
    (SubmissionFields.Fit ⟨6, 0, 0, 0, 0, 14, 0, 0, 0, 0, 0⟩ ∧ ¬ SubmissionFields.InRange ⟨6, 0, 0, 0, 0, 14, 0, 0, 0, 0, 0⟩) ∧
    (SubmissionFields.Fit ⟨0, 0, 0, 1, 0, 9, 0, 32, 3, 500, 1000⟩ ∧
      ¬ SubmissionFields.InRange ⟨0, 0, 0, 1, 0, 9, 0, 32, 3, 500, 1000⟩) ∧
    (queued16.Open ∧ 16 ≤ queued16.dispatcher.orders.length ∧ SubmissionFields.Fit ⟨4, 1, 0, 10, 1, 13, 24, 0, 0, 0, 0⟩ ∧
      SubmissionFields.InRange ⟨4, 1, 0, 10, 1, 13, 24, 0, 0, 0, 0⟩) := by
  refine ⟨openAt (by decide +kernel), ⟨⟨by decide, by decide, by decide⟩, fun h => (h.deliver rfl).2.2 rfl⟩,
    ⟨⟨by decide, by decide, by decide⟩, fun h => absurd (h.plate rfl).1 (by decide)⟩, openAt (by decide +kernel),
    by decide +kernel, ⟨by decide, by decide, by decide⟩, ?_⟩
  constructor <;> simp [slotMatches]

/-- LOAD_NEW: each refusal and the acceptance. -/
theorem witness_OrderSubmitTakesOrRefusesAnOrder_loadNew :
    let mass := kilograms 4000 5307 150
    (paused.Open ∧ (3 ≤ 150 ∧ 150 ≤ 150) ∧ (500 ≤ 4000 ∧ 4000 ≤ 4000) ∧ (1000 ≤ 16000 ∧ 16000 ≤ 16000)) ∧
    (paused.dispatcher.orders.length < 16 ∧ paused.heat 31 = none ∧ paused.heat 3 = some heatA ∧ heatA.state = .active) ∧
    ((after (.heatClose 1 [3]) paused).heat 3 = some { heatA with state := .closed }) ∧
    (ordered .queued none).DestFails (.bay 7) .bayClaimed ∧ paused.DestFails (.bay 0) .bayNotReady ∧
    ((paused.bay 7).state = .empty ∧ (∀ c, ¬ paused.Lifts .any (kilograms 4000 16000 150) c) ∧
      paused.Lifts (.only .c2) mass .c2 ∧ paused.Reaches .c2 .intake ∧ paused.Reaches .c2 (.bay 7) ∧ paused.hall.state = .pause) ∧
    (let s := paused.modDispatcher (fun d => { d with settings := { d.settings with reach := ⟨[0], [0, 7]⟩ } });
      s.Open ∧ s.Lifts (.only .c2) mass .c2 ∧ ∀ c, ¬ s.Reaches c (.bay 7)) := by
  simp only [State.Lifts, State.Reaches]
  and_intros <;> first
    | exact openAt (by decide +kernel)
    | decide +kernel
    | exact .inl ⟨7, rfl, .inl (by decide +kernel), rfl⟩
    | exact .inr (.inl ⟨0, rfl, by decide +kernel, by decide +kernel, by decide +kernel, rfl⟩)
    | exact fun c => by cases c <;> decide +kernel

/-- The bay of named0 CUT under hall PAUSE; its plate names record 0. -/
def unloading0 : State := inHall named0 .pause
/-- The STOCKED record of rack0 under hall PAUSE. -/
def stocked0 : State := inHall rack0 .pause
def lastSlot : Slot := ⟨3, 23⟩

theorem slot_open {s : State} (k : Slot) (h : (∀ i, (s.remnant i).bind (·.slot) ≠ some k) ∧ s.dispatcher.orders = []) :
    s.DestOpen (.rack k) := by
  refine ⟨fun b e => (by cases e), fun j e => ?_⟩
  cases e
  exact ⟨fun i r hr hk => h.1 i (by rw [hr]; exact hk), by rw [h.2]; exact fun o ho => (by cases ho)⟩

theorem bay_open {s : State} (b : BayIx) (h : (s.bay b).state = .empty) : s.DestOpen (.bay b) :=
  ⟨fun c e => (by cases e; exact h), fun k e => (by cases e)⟩

theorem offload_open (s : State) : s.DestOpen .offload := ⟨fun b e => (by cases e), fun k e => (by cases e)⟩

/-- The unload kinds: to the last slot of a rack, and to OFFLOAD without a remnant. -/
theorem witness_OrderSubmitTakesOrRefusesAnOrder_unload :
    (unloading0.Open ∧ unloading0.dispatcher.orders.length < 16 ∧
      (unloading0.bay 0).plate = some { plateA with remnant := some 0 } ∧ (unloading0.bay 0).state = .cut ∧
      unloading0.DestOpen (.rack lastSlot) ∧ unloading0.Lifts .any (kilograms 500 600 20) .c1 ∧
      unloading0.Reaches .c1 (.bay 0) ∧ unloading0.Reaches .c1 (.rack lastSlot) ∧ unloading0.hall.state = .pause) ∧
    (let s := bay0 paused .ready;
      s.Open ∧ (s.bay 0).plate = some plateA ∧ plateA.remnant = none ∧ (s.bay 0).state = .ready ∧ s.DestOpen .offload ∧
      s.Lifts .any (kilograms 2000 6000 20) .c1 ∧ s.Reaches .c1 (.bay 0) ∧ s.Reaches .c1 .offload) ∧
    ((paused.bay 0).state = .burning ∧ (paused.bay 0).plate = some plateA) ∧
    (let s := bay0 stocked0 .ready;
      s.Open ∧ (s.bay 0).plate = some plateA ∧ s.DestFails (.rack ⟨0, 0⟩) .slotOccupied) := by
  simp only [State.Lifts, State.Reaches]
  and_intros <;> first
    | exact openAt (by decide +kernel)
    | exact slot_open _ (by decide +kernel)
    | exact offload_open _
    | exact .inr (.inr ⟨_, rfl, fun h => h.1 0 remnantA (by decide +kernel) (by decide +kernel), rfl⟩)
    | decide +kernel

/-- The kinds from a rack: LOAD_REMNANT, RESTOCK and SCRAP_REMNANT of record 0 in rack 1, slot 1. -/
theorem witness_OrderSubmitTakesOrRefusesAnOrder_fromRack :
    (stocked0.Open ∧ stocked0.dispatcher.orders.length < 16 ∧ stocked0.remnant 0 = some remnantA ∧
      remnantA.slot = some ⟨0, 0⟩ ∧ (∀ j q, stocked0.remnant j = some q → q.slot = some ⟨0, 0⟩ → j = 0) ∧
      remnantA.state = .stocked ∧ stocked0.heat remnantA.heat = some heatA ∧ heatA.state ≠ .closed) ∧
    (stocked0.DestOpen (.bay 7) ∧ stocked0.DestOpen (.rack lastSlot) ∧ stocked0.DestOpen .offload ∧
      stocked0.DestFails (.rack ⟨0, 0⟩) .slotOccupied ∧ stocked0.DestFails (.bay 0) .bayNotReady) ∧
    (stocked0.Lifts .any (kilograms 500 600 20) .c2 ∧ stocked0.Reaches .c2 (.rack ⟨0, 0⟩) ∧ stocked0.Reaches .c2 (.bay 7) ∧
      stocked0.Reaches .c2 (.rack lastSlot) ∧ stocked0.Reaches .c2 .offload ∧ stocked0.hall.state = .pause) ∧
    ((after (.heatClose 1 [3]) stocked0).heat 3 = some { heatA with state := .closed }) ∧
    (∀ i r, stocked0.remnant i = some r → r.slot ≠ some lastSlot) := by
  have one : ∀ i, i ≠ 0 → stocked0.remnant i = none := by decide +kernel
  simp only [State.Lifts, State.Reaches]
  and_intros <;> first
    | exact openAt (by decide +kernel)
    | exact slot_open _ (by decide +kernel)
    | exact bay_open _ (by decide +kernel)
    | exact offload_open _
    | exact .inr (.inr ⟨_, rfl, fun h => h.1 0 remnantA (by decide +kernel) (by decide +kernel), rfl⟩)
    | exact .inr (.inl ⟨0, rfl, by decide +kernel, by decide +kernel, by decide +kernel, rfl⟩)
    | exact fun j q hq _ => Classical.byContradiction (fun h => by rw [one j h] at hq; cases hq)
    | exact fun i r hr hk => (by decide +kernel : ∀ i, (stocked0.remnant i).bind (·.slot) ≠ some lastSlot) i (by rw [hr]; exact hk)
    | decide +kernel

/-- C2 STRANDED with a load under hall PAUSE. -/
def delivering (r : Option RemnantIx) : State :=
  crn stocked0 .c2 (fun k => { k with state := .stranded, hook := some ⟨3, 7, 20, 500, 600, r⟩ })

theorem witness_OrderSubmitTakesOrRefusesAnOrder_deliver :
    ((delivering none).Open ∧ ((delivering none).crane .c2).state = .stranded ∧ (delivering none).dispatcher.orders = [] ∧
      ((delivering none).crane .c2).hook = some ⟨3, 7, 20, 500, 600, none⟩ ∧ (delivering none).DestOpen (.bay 7) ∧
      kilograms 500 600 20 ≤ (delivering none).settings.swl.get .c2 ∧ (delivering none).Reaches .c2 (.bay 7) ∧
      (delivering none).hall.state = .pause) ∧
    ((delivering (some 0)).DestOpen (.rack lastSlot) ∧ ((delivering (some 0)).crane .c2).hook = some ⟨3, 7, 20, 500, 600, some 0⟩) ∧
    ((delivering none).crane .c1).state ≠ .stranded ∧ (delivering none).DestFails (.rack ⟨0, 0⟩) .slotOccupied ∧
    (delivering none).DestOpen (.rack lastSlot) := by
  simp only [State.Reaches]
  and_intros <;> first
    | exact openAt (by decide +kernel)
    | exact slot_open _ (by decide +kernel)
    | exact bay_open _ (by decide +kernel)
    | exact .inr (.inr ⟨_, rfl, fun h => h.1 0 remnantA (by decide +kernel) (by decide +kernel), rfl⟩)
    | decide +kernel

/-- Order 7 in hand of C2, which travels loaded past bay 6. -/
def carrying0 : State := crn (travel0 .carrying) .c2 (fun k => { k with position := 90000, hook := order0.load, hookLoaded := true })
def carried : Order := { order0 with state := .carrying, crane := some .c2, queuedMs := none }

theorem alone1 {s : State} {p : Nat} (h : p ≤ s.layout.runwayEnd ∧ p + s.settings.separation ≤ (s.crane .c2).position ∧
    (s.crane .c2).state ≠ .travel ∧ (s.crane .c2).state ≠ .yielding ∧ (s.crane .c2).state ≠ .wait) : s.ReportsAlone .c1 p :=
  ⟨h.1, h.2.1, h.2.2⟩
theorem alone2 {s : State} {p : Nat} (h : p ≤ s.layout.runwayEnd ∧ (s.crane .c1).position + s.settings.separation ≤ p ∧
    (s.crane .c1).state ≠ .travel ∧ (s.crane .c1).state ≠ .yielding ∧ (s.crane .c1).state ≠ .wait) : s.ReportsAlone .c2 p :=
  ⟨h.1, h.2.1, h.2.2⟩

/-- Order 7 alone in the queue, under hall PAUSE. -/
def ordering (o : Order) (s : State) : State := (inHall s .pause).modDispatcher (fun d => { d with orders := [o], counter := 8 })
/-- An unload of the CUT bay 1 to OFFLOAD. -/
def unload0 : Order :=
  { order0 with kind := .unloadToOffload, source := .bay 0, dest := .offload, load := none, priorBay := some .cut }
def unloading : State := (ordering unload0 run0).modBay 0 (fun k => { k with state := .unloading, claim := some 7 })
/-- A LOAD_REMNANT of the one record of rack0 to bay 8. -/
def remnantLoad : Order :=
  { order0 with
    kind := .loadRemnant, source := .rack ⟨0, 0⟩, load := some ⟨3, 7, 20, 500, 600, some 0⟩, priorRemnant := some .stocked }
def called : State :=
  ((ordering remnantLoad rack0).modRemnant 0 (fun r => { r with state := .called })).modBay 7 (fun k =>
    { k with state := .loading, claim := some 7 })
/-- A DELIVER to OFFLOAD for C2, and that order on its way. -/
def deliver0 : Order :=
  { order0 with kind := .deliver, source := .hook, dest := .offload, crane := some .c2 }
def delivered0 : Order := { deliver0 with state := .carrying, queuedMs := none }
def onTheHook (o : Order) : State :=
  crn (ordering o run0) .c2 (fun k =>
    { k with state := .travel, order := some 7, position := 118500, hook := order0.load, hookLoaded := true })

theorem witness_OrdersAreCancelledAndRedirected_kinds :
    (unloading.Open ∧ unloading.order 7 = some unload0 ∧ unload0.crane = none ∧ unloading.NothingToDispatch ∧
      (unloading.bay 0).state = .unloading ∧ (unloading.bay 0).claim = some 7 ∧ (unloading.bay 0).comparePending = false) ∧
    (called.Open ∧ called.order 7 = some remnantLoad ∧ called.NothingToDispatch ∧
      called.remnant 0 = some { remnantA with state := .called } ∧ remnantA.slot = some ⟨0, 0⟩) ∧
    (let s := crn (ordering deliver0 run0) .c2 (fun k => { k with state := .stranded, hook := order0.load });
      s.Open ∧ s.order 7 = some deliver0 ∧ deliver0.kind = .deliver ∧ (s.crane .c2).order = none ∧ s.NothingToDispatch) ∧
    (let s := stopped0 .suspended (some .assigned) (some 7);
      s.Open ∧ s.order 7 = some { carried with state := .suspended, suspendedPhase := some .assigned } ∧
      (s.crane .c2).order = some 7 ∧ s.NothingToDispatch) ∧
    (1 < 256 ∧ 1 < 2 ∧ ¬ slotMatches 10 25 ∧ ¬ slotMatches 14 1) := by
  simp only [State.NothingToDispatch, slotMatches]
  and_intros <;> first
    | exact openAt (by decide +kernel)
    | decide +kernel

theorem witness_OrdersAreCancelledAndRedirected_refused :
    ((onTheHook delivered0).Open ∧ (onTheHook delivered0).order 7 = some delivered0 ∧ delivered0.crane = some .c2) ∧
    ¬ carried.kind.Admits .offload ∧ ¬ (delivered0.kind.Admits .offload ∧ Site.offload ≠ delivered0.dest) ∧
    (delivered0.kind.Admits (.rack ⟨0, 0⟩) ∧ Site.rack ⟨0, 0⟩ ≠ delivered0.dest ∧ delivered0.kind.Admits (.bay 0) ∧
      delivered0.kind.Admits (.bay 6)) ∧
    (onTheHook delivered0).DestFails (.bay 0) .bayNotReady ∧
    ¬ (∀ k, Site.rack ⟨0, 0⟩ = .rack k → ∃ r, delivered0.load = some r ∧ r.remnant ≠ none) ∧
    (¬ (crn (onTheHook delivered0) .c1 (fun k => { k with position := 90000 })).SpansApart .c2 [118500, 93500] ∧
      ∀ y, ¬ (crn (onTheHook delivered0) .c1 (fun k => { k with position := 90000 })).YieldsTo .c2 [118500, 93500] y) ∧
    (onTheHook delivered0).DestOpen (.bay 6) := by
  refine ⟨⟨openAt (by decide +kernel), by decide +kernel, rfl⟩, ?_, fun h => h.2 rfl, ⟨.inr (.inr rfl), by decide, .inr (.inr rfl),
    .inr (.inr rfl)⟩, .inr (.inl ⟨0, rfl, by decide +kernel, by decide +kernel, by decide +kernel, rfl⟩), fun h => ?_,
    ⟨fun h => ?_, fun y h => ?_⟩, bay_open _ (by decide +kernel)⟩
  · rintro (h | h | h) <;> cases h
  · obtain ⟨r, e, k⟩ := h _ rfl
    cases e
    exact k rfl
  · exact absurd (h 93500 (by decide) 90000 (by decide +kernel)) (by decide +kernel)
  · exact absurd h.2.1 (by decide +kernel)

theorem witness_OrdersAreCancelledAndRedirected :
    (paused.Open ∧ 1 ≤ 65535 ∧ 65535 ≤ 65535 ∧ paused.order 65535 = none ∧ ∀ e ∈ paused.dispatcher.history, e.number ≠ 65535) ∧
    (let s := after (.orderCancel 1 (u16 7)) (ordered .queued none);
      s.Open ∧ s.order 7 = none ∧ ∃ e ∈ s.dispatcher.history, e.number = 7) ∧
    (carrying0.Open ∧ carrying0.order 7 = some carried ∧ carried.state = .carrying) ∧
    (let s := ordered .queued none;
      s.Open ∧ s.order 7 = some order0 ∧ order0.state ≠ .carrying ∧ order0.state = .queued ∧ order0.kind = .loadNew ∧
      order0.crane = none ∧ order0.dest = .bay 7 ∧ order0.source = .intake ∧ order0.load = some ⟨3, 7, 150, 4000, 5307, none⟩ ∧
      (s.bay 7).state = .loading ∧ (s.bay 7).claim = some 7 ∧ s.heat 3 = some heatA ∧ s.NothingToDispatch) ∧
    (let s := travel0 .assigned;
      s.Open ∧ s.order 7 = some { carried with state := .assigned } ∧ (s.crane .c2).order = some 7 ∧ s.hall.state = .pause) ∧
    (carried.crane = some .c2 ∧ carried.kind.Admits (.bay 6) ∧ carried.dest = .bay 7 ∧ Site.bay 6 ≠ .bay 7 ∧
      (carrying0.bay 6).state = .empty ∧ (7 : Fin 14) ∈ carrying0.settings.reach.get .c2 ∧ (carrying0.crane .c2).state = .travel ∧
      (carrying0.crane .c1).target = none ∧ (carrying0.crane .c1).order = none ∧
      carrying0.ReportsAlone .c2 (carrying0.crane .c2).position ∧
      carrying0.ReportsAlone .c2 (carrying0.layout.position (.bay 6))) := by
  simp only [State.NothingToDispatch, OrderKind.Admits]
  and_intros <;> first
    | exact openAt (by decide +kernel)
    | exact alone2 (by decide +kernel)
    | decide +kernel

/-- Hall RUN with order 7 of C1 aged in the normal list, C1 IDLE, and C2 in a state at a position. -/
def aged (x : CraneState) (p : Nat) : State :=
  crn (crn ((inHall (ordered .queued none) .run).modDispatcher (fun d =>
    { d with
      settings := { CraneSettings.reset with agingTime := 30 }
      normal := [7]
      urgent := []
      orders := [{ order0 with choice := .only .c1 }] })) .c1 (fun k => { k with state := .idle })) .c2 (fun k =>
        { k with state := x, position := p })
/-- aged as the promotion leaves it. -/
def agedPromoted (x : CraneState) (p : Nat) : State :=
  (aged x p).modDispatcher (fun d =>
    { d with
      normal := []
      urgent := [7]
      promotions := 1
      orders := [{ order0 with choice := .only .c1, promoted := true, queuedMs := some 30000 }] })
def agedOrder : Order := { order0 with choice := .only .c1, promoted := true, queuedMs := some 30000 }

theorem aged_apart : (agedPromoted .offline 120000).SpansApart .c1 ((agedPromoted .offline 120000).spanWith .c1 agedOrder) := by
  intro p hp q hq
  exact (by decide +kernel : ∀ p ∈ (agedPromoted .offline 120000).spanWith .c1 agedOrder,
    ∀ q ∈ (agedPromoted .offline 120000).span .c2, p + (agedPromoted .offline 120000).settings.separation ≤ q) p hp q hq

theorem aged_yields :
    (agedPromoted .idle 100000).YieldsTo .c1 ((agedPromoted .idle 100000).spanWith .c1 agedOrder) 108500 :=
  ⟨fun h => absurd (h 99500 (by decide +kernel) 100000 (by decide +kernel)) (by decide +kernel), by decide +kernel,
    by decide +kernel, ⟨99500, by decide +kernel, by decide +kernel⟩,
    (by decide +kernel : ∀ p ∈ (agedPromoted .idle 100000).spanWith .c1 agedOrder,
      p + (agedPromoted .idle 100000).settings.separation ≤ 108500)⟩

/-- C1 alone is eligible, whether the spans lie apart or C2 yields: order 7 is chosen, for C1. -/
theorem witness_CraneSettingsAndPromotion_dispatch :
    ∀ s, s = agedPromoted .offline 120000 ∨ s = agedPromoted .idle 100000 →
      s.Chooses agedOrder 0 ∧ s.ChoosesCrane agedOrder .c1 := by
  intro s h
  have facts : s.order 7 = some agedOrder ∧ (s.crane .c1).state = .idle ∧ s.dispatcher.urgent = [7] ∧
      s.dispatcher.normal = [] ∧ s.dispatcher.urgentRun = 0 ∧ agedOrder.mass ≤ s.settings.swl.get .c1 ∧
      (0 ∈ s.settings.reach.get .c1 ∧ (8 : Fin 14) ∈ s.settings.reach.get .c1) := by
    rcases h with rfl | rfl <;> decide +kernel
  obtain ⟨hn, hc, hu, hl, hr, hm, hreach⟩ := facts
  have ok : s.Eligible agedOrder .c1 := by
    refine ⟨⟨hc, .inr rfl⟩, hreach, hm, ?_⟩
    rcases h with rfl | rfl
    · exact .inl aged_apart
    · exact .inr ⟨_, aged_yields⟩
  have no : ¬ s.Eligible agedOrder .c2 := fun h => by rcases h.crane.2 with e | e <;> cases e
  refine ⟨.inl ⟨⟨hn, ⟨_, ok⟩, [], [], hu, fun n h => by cases h⟩, ?_, hr.symm⟩, ok, fun h => absurd h no⟩
  rw [hl]
  exact fun n h => by cases h

theorem witness_CraneSettingsAndPromotion_run :
    ((aged .offline 120000).Settled ∧ (aged .offline 120000).settings.agingTime ≠ 0 ∧ 7 ∈ (aged .offline 120000).dispatcher.normal ∧
      (aged .offline 120000).hall.state = .run ∧ ((aged .offline 120000).crane .c2).state = .offline) ∧
    ((aged .idle 100000).Settled ∧ (aged .idle 100000).settings.agingTime ≠ 0 ∧ 7 ∈ (aged .idle 100000).dispatcher.normal ∧
      (aged .idle 100000).hall.state = .run) := by
  simp only [State.Settled]; decide +kernel

/-- R130, R139: the yield of C2 is sent before C1's own GOTO. -/
theorem test_promotion_dispatches :
    ((after (.orderPromotion 7) (aged .idle 100000)).sent.take 2 = [.crane .c2 (.goto 108500), .crane .c1 (.goto 2500)]) ∧
    (after (.orderPromotion 7) (aged .offline 120000)).sent = [.crane .c1 (.goto 2500)] := by decide +kernel

theorem witness_CraneSettingsAndPromotion :
    (craneSettings.InRange ∧ run0.Open ∧ run0.hall.state ≠ .park) ∧
    (State.reset.Open ∧ State.reset.hall.state = .park ∧ State.reset.layout.Meets craneSettings.margin craneSettings.park ∧
      craneSettings.park.c1 + craneSettings.separation ≤ craneSettings.park.c2 ∧ State.reset.dispatcher.normal = [] ∧
      ∀ c, craneSettings.park.get c = State.reset.settings.park.get c) ∧
    (let far := { craneSettings with park := ⟨90001, 120000⟩ };
      far.InRange ∧ ¬ (far.park.c1 + far.separation ≤ far.park.c2)) ∧
    (1999 < 65536 ∧ ¬ 2000 ≤ 1999 ∧ ¬ (16384 < 2 ^ 14) ∧ ¬ (29 = 0 ∨ 30 ≤ 29 ∧ 29 ≤ 1800) ∧
      ¬ (∀ c ∈ List.replicate 14 (3 : Byte), c = 1 ∨ c = 2)) ∧
    (run0.Settled ∧ run0.settings.agingTime = 0) ∧
    (aging0.Settled ∧ aging0.settings.agingTime ≠ 0 ∧ 7 ∈ aging0.dispatcher.normal ∧ aging0.hall.state = .pause) := by
  simp only [State.Settled]
  and_intros <;> first
    | exact openAt (by decide +kernel)
    | exact ⟨by decide +kernel, by decide +kernel, by decide +kernel, by decide +kernel⟩
    | exact layout_reset.2
    | decide +kernel
    | exact fun c => by cases c <;> decide +kernel

/-! ### Cranes -/

theorem witness_TargetsStayWithinTheirBounds :
    ((travel0 .carrying).crane .c2).goal = some ⟨99500, .order⟩ ∧
    ((travel0 .carrying).bounds .c2 99500).low ≤ ((travel0 .carrying).bounds .c2 99500).high ∧
    (carrying0.crane .c2).hook ≠ none ∧ (carrying0.bay 0).state = .burning ∧
    (carrying0.bounds .c2 99500).low ≤ (carrying0.bounds .c2 99500).high := by decide +kernel

/-- C2 STOPPED with order 7, suspended in CARRYING and bound for OFFLOAD, on its hook. -/
def stopLoaded : State :=
  crn ((stopped0 .suspended (some .carrying) (some 7)).modDispatcher (fun d =>
    { d with orders := d.orders.map (fun o => { o with dest := .offload }) })) .c2 (fun k =>
      { k with hook := order0.load, hookLoaded := true })

theorem witness_StoppedCranesResumeOrAreCleared :
    (run0.Open ∧ (run0.crane .c2).state ≠ .stopped) ∧
    (let s := crn (stopped0 .assigned none none) .c2 (fun k => { k with drive := 255 });
      s.Open ∧ (s.crane .c2).state = .stopped ∧ (s.crane .c2).drive ≠ 0) ∧
    (let s := stopped0 .queued none none;
      s.Open ∧ (s.crane .c2).state = .stopped ∧ ((s.crane .c2).drive = 0 ∧ s.overloadActive .c2 = false ∧
        s.hallStopActive = false ∧ ¬ s.CranesTooClose ∧ (s.crane .c2).hookLoaded = false) ∧ (s.crane .c2).order = none ∧
      s.hall.state ≠ .park ∧ s.NothingToDispatch) ∧
    (let s := stopped0 .suspended (some .lifting) (some 7);
      s.Open ∧ (s.crane .c2).state = .stopped ∧ ((s.crane .c2).drive = 0 ∧ s.overloadActive .c2 = false ∧
        s.hallStopActive = false ∧ ¬ s.CranesTooClose ∧ (s.crane .c2).hookLoaded = false) ∧ (s.crane .c2).order = some 7 ∧
      s.order 7 = some { carried with state := .suspended, suspendedPhase := some .lifting } ∧ s.NothingToDispatch) ∧
    (let s := stopLoaded;
      s.Open ∧ (s.crane .c2).state = .stopped ∧ (s.crane .c2).order = some 7 ∧
      s.order 7 = some { carried with state := .suspended, suspendedPhase := some .carrying, dest := .offload } ∧
      s.hall.state ≠ .park ∧ s.NothingToDispatch) := by
  simp only [State.NothingToDispatch, State.CranesTooClose]
  and_intros <;> first | exact openAt (by decide +kernel) | decide +kernel

/-- C2 clipped at 99 500 short of a goal farther west. -/
def clipped0 : State := crn (travel0 .assigned) .c2 (fun k => { k with goal := some ⟨5, .order⟩, clip := some .burningBay })
def guard8 (s : State) : State := s.modLine 3 (fun l => { l with function := .guard 7, activeLevel := .low })
def yielding0 : State := crn paused .c1 (fun k => { k with state := .yielding, target := some 10, goal := some ⟨10, .yield⟩ })
def parking0 : State := crn paused .c1 (fun k => { k with state := .travel, target := some 0, goal := some ⟨0, .park⟩ })
def lifting0 : State := crn (travel0 .lifting) .c2 (fun k => { k with state := .hoist, hoistTimer := some 5 })
/-- C2 lifts the plate of bay 1 for OFFLOAD; the plate names the remnant record of 500 × 600 of rack0. -/
def unload1 : Order := { unload0 with state := .lifting, crane := some .c2, queuedMs := none }
def liftingBay (s : State) : State :=
  crn ((ordering unload1 s).modBay 0 (fun k => { k with state := .unloading, claim := some 7 })) .c2 (fun k =>
    { k with state := .hoist, order := some 7, hoistTimer := some 5 })
/-- R9, R106, R114: the load takes the dimensions entered into the record that the plate names, not the plate's own 2000 × 6000. -/
theorem test_lift_takes_entered_dimensions : let t := after (.picked .c2) (liftingBay named0)
    (plateA.width, plateA.length, (t.crane .c2).hook, (t.order 7).bind (·.load), (t.remnant 0).map (·.state), (t.bay 0).state) =
      (2000, 6000, some ⟨3, 7, 20, 500, 600, some 0⟩, some ⟨3, 7, 20, 500, 600, some 0⟩, some .moving, .empty) := by
  decide +kernel
def lowering0 : State := crn (travel0 .lowering) .c2 (fun k => { k with state := .hoist, hook := order0.load })

theorem witness_CraneReportsCarryTheOrder :
    (let s := travel0 .assigned;
      s.Settled ∧ s.NothingToDispatch ∧ s.ReportsAlone .c2 (99500 : BitVec 32).toNat ∧ (s.crane .c2).state = .travel ∧
      (s.crane .c2).target = some (99500 : BitVec 32).toNat ∧ (s.crane .c2).goal = some ⟨(99500 : BitVec 32).toNat, .order⟩ ∧
      (s.crane .c2).order = some 7 ∧ s.order 7 = some { carried with state := .assigned }) ∧
    ((travel0 .carrying).order 7 = some carried ∧ (travel0 .carrying).guardActive 7 = false ∧ carried.dest = .bay 7 ∧
      (guard8 (travel0 .carrying)).guardActive 7 = true) ∧
    (clipped0.Settled ∧ clipped0.ReportsAlone .c2 (99500 : BitVec 32).toNat ∧ (clipped0.crane .c2).state = .travel ∧
      (clipped0.crane .c2).target = some (99500 : BitVec 32).toNat ∧ (clipped0.crane .c2).goal = some ⟨5, .order⟩ ∧
      5 ≠ (99500 : BitVec 32).toNat ∧ (clipped0.crane .c2).clip = some .burningBay) ∧
    (yielding0.Settled ∧ yielding0.ReportsAlone .c1 (10 : BitVec 32).toNat ∧ (yielding0.crane .c1).state = .yielding ∧
      (yielding0.crane .c1).target = some (10 : BitVec 32).toNat ∧
      (yielding0.crane .c1).goal = some ⟨(10 : BitVec 32).toNat, .yield⟩ ∧ yielding0.hall.state ≠ .park) ∧
    (parking0.Settled ∧ parking0.ReportsAlone .c1 (0 : BitVec 32).toNat ∧ (parking0.crane .c1).state = .travel ∧
      (parking0.crane .c1).target = some (0 : BitVec 32).toNat ∧ (parking0.crane .c1).goal = some ⟨(0 : BitVec 32).toNat, .park⟩) ∧
    (clipped0.ReportsAlone .c2 (99499 : BitVec 32).toNat ∧ (clipped0.crane .c2).target ≠ some (99499 : BitVec 32).toNat ∧
      (clipped0.crane .c2).state ≠ .wait) ∧
    (yielding0.crane .c1).state ≠ .hoist ∧
    (lifting0.Settled ∧ lifting0.NothingToDispatch ∧ (lifting0.crane .c2).state = .hoist ∧ (lifting0.crane .c2).order = some 7 ∧
      lifting0.order 7 = some { carried with state := .lifting } ∧ (lifting0.crane .c2).withdrawn = false ∧
      carried.source = .intake ∧ carried.load.bind (·.remnant) = none ∧ (lifting0.crane .c1).state = .offline) ∧
    (∀ s ∈ [liftingBay named0, liftingBay run0], s.Settled ∧ s.NothingToDispatch ∧ (s.crane .c2).state = .hoist ∧
      (s.crane .c2).order = some 7 ∧ s.order 7 = some unload1 ∧ unload1.state = .lifting ∧ (s.crane .c2).withdrawn = false ∧
      unload1.source = .bay 0 ∧ (s.crane .c1).state = .offline) ∧
    (((liftingBay named0).bay 0).plate = some { plateA with remnant := some 0 } ∧ (liftingBay named0).remnant 0 ≠ none ∧
      ((liftingBay run0).bay 0).plate = some plateA ∧ plateA.remnant = none) ∧
    (lowering0.Settled ∧ lowering0.NothingToDispatch ∧ (lowering0.crane .c2).state = .hoist ∧
      (lowering0.crane .c2).order = some 7 ∧ lowering0.order 7 = some { carried with state := .lowering } ∧
      carried.crane = some .c2 ∧ (lowering0.crane .c2).hook = some ⟨3, 7, 150, 4000, 5307, none⟩ ∧ lowering0.hall.state ≠ .park) := by
  simp only [State.NothingToDispatch, State.Settled]
  and_intros <;> first
    | exact alone1 (by decide +kernel)
    | exact alone2 (by decide +kernel)
    | decide +kernel

/-- C2 IDLE at its park position in hall PAUSE. -/
def idle0 : State := crn paused .c2 (fun k => { k with state := .idle, silenceTimer := some 3 })
/-- Both cranes IDLE. -/
def idles0 : State := crn idle0 .c1 (fun k => { k with state := .idle })

theorem witness_CranesStopAndComeBack :
    (idle0.Settled ∧ idle0.NothingToDispatch ∧ idle0.ReportsAlone .c2 (120000 : BitVec 32).toNat ∧ (idle0.crane .c2).state ≠ .wait ∧
      (idle0.crane .c2).state ≠ .offline ∧ (idle0.crane .c2).state ≠ .stopped ∧ (idle0.crane .c2).hook = none ∧ (255 : Byte) ≠ 0 ∧
      (idle0.crane .c2).order = none) ∧
    (let s := stopLine paused;
      s.Settled ∧ s.NothingToDispatch ∧ s.ReportsAlone .c2 (9000 : BitVec 32).toNat ∧ (s.crane .c2).state = .offline ∧
      s.hallStopActive = true) ∧
    (paused.ReportsAlone .c2 (9000 : BitVec 32).toNat ∧ (paused.crane .c2).state = .offline ∧ paused.hallStopActive = false ∧
      (paused.crane .c2).order = none ∧ (paused.crane .c2).hook = none ∧ paused.hall.state ≠ .park) ∧
    (State.reset.Settled ∧ State.reset.NothingToDispatch ∧ State.reset.ReportsAlone .c2 (119900 : BitVec 32).toNat ∧
      (State.reset.crane .c2).state = .offline ∧ State.reset.hallStopActive = false ∧
      ((119900 : BitVec 32).toNat ≤ State.reset.settings.park.get .c2 + 100 ∧
        State.reset.settings.park.get .c2 ≤ (119900 : BitVec 32).toNat + 100)) ∧
    (idles0.Settled ∧ idles0.NothingToDispatch ∧ (111001 : BitVec 32).toNat ≤ idles0.layout.runwayEnd ∧
      (crn idles0 .c1 (fun k => { k with position := (111001 : BitVec 32).toNat })).CranesTooClose ∧ (idles0.crane .c1).hook = none ∧
      ∀ d, (idles0.crane d).state ≠ .offline ∧ (idles0.crane d).state ≠ .stopped) ∧
    (separated.Settled ∧ separated.NothingToDispatch ∧ (111001 : BitVec 32).toNat ≤ separated.layout.runwayEnd ∧
      (crn separated .c1 (fun k => { k with position := (111001 : BitVec 32).toNat })).CranesTooClose ∧
      ∀ d, (separated.crane d).state = .stopped ∧ (separated.crane d).stopCause = some .separation ∧ (separated.crane d).hook = none) ∧
    (let s := crn paused .c2 (fun k => { k with silenceTimer := some 0 });
      s.Settled ∧ s.NothingToDispatch ∧ (s.crane .c2).silenceTimer ≠ none ∧ (s.crane .c2).state = .offline ∧
      (s.crane .c2).waitCause = none ∧ (s.crane .c2).stopCause = none) ∧
    ((paused.crane .c2).silenceTimer = none ∧ (paused.crane .c2).hoistTimer = none) ∧
    ((travel0 .carrying).Settled ∧ (travel0 .carrying).NothingToDispatch ∧ ((travel0 .carrying).crane .c2).silenceTimer ≠ none ∧
      ((travel0 .carrying).crane .c2).state ≠ .offline ∧ ((travel0 .carrying).crane .c2).order = some 7 ∧
      (travel0 .carrying).order 7 = some carried ∧ carried.state ≠ .suspended) ∧
    ((lifting0.crane .c2).hoistTimer ≠ none ∧ (lifting0.crane .c2).state = .hoist) := by
  simp only [State.NothingToDispatch, State.Settled, State.CranesTooClose]
  and_intros <;> first
    | exact alone2 (by decide +kernel)
    | decide +kernel
    | exact fun c => by cases c <;> decide +kernel

end Sys2Proof.Tests
end

section
/-! SUPPORT. Sound monitor records (R50, R51, R54, R56, R58, R60) through the operations of the feeder budget, the arcs and the
channels. Soundness is followed for each monitor by itself, because one operation leaves its own monitor unsound on the way: a
strike that has failed for the last time stops the strike timer before the arc is put out (R55). -/

namespace Sys2Proof.Machine

open State

set_option Elab.async false

/-! ## One monitor record -/

/-- A record that agrees in the fields of `Monitor.Sound` is as sound. -/
theorem Monitor.Sound.congr {m n : Monitor} (h : m.Sound) (arc : n.arc = m.arc := by rfl)
    (timer : n.strikeTimer.isSome = m.strikeTimer.isSome := by rfl) (height : n.heightHold = m.heightHold := by rfl)
    (setpoint : n.setpoint.isSome = m.setpoint.isSome := by rfl) (purpose : n.purpose.isSome = m.purpose.isSome := by rfl)
    (samples : n.samples = m.samples := by rfl) (bad : n.badCount = m.badCount := by rfl) : n.Sound where
  timer := by rw [timer, arc]; exact h.timer
  height := by rw [height, arc]; exact h.height
  setpoint := by rw [setpoint, arc]; exact h.setpoint
  purpose := by rw [purpose, arc]; exact h.purpose
  samples := by rw [samples, arc]; exact h.samples
  bad := by rw [bad, samples]; exact h.bad

theorem Monitor.lit_iff (m : Monitor) : m.lit = true ↔ m.arc ≠ .dark := by simp [Monitor.lit]

/-- R58, R59: a monitor that enters DARK is sound, whatever it was. -/
theorem Monitor.toDark_sound (m : Monitor) : m.toDark.Sound := by constructor <;> simp [Monitor.toDark]

theorem Monitor.reset_sound : Monitor.reset.Sound := by constructor <;> simp [Monitor.reset]

/-- R53: a monitor with the fields of a strike's beginning is sound. -/
theorem Monitor.sound_of_strike {m : Monitor} (arc : m.arc = .striking := by rfl) (timer : m.strikeTimer.isSome := by rfl)
    (height : m.heightHold = false := by rfl) (setpoint : m.setpoint.isSome := by rfl) (purpose : m.purpose.isSome := by rfl)
    (samples : m.samples = [] := by rfl) (bad : m.badCount = 0 := by rfl) : m.Sound := by
  constructor <;> simp [arc, timer, height, setpoint, purpose, samples, bad]

/-- R33: a new setpoint keeps a lit monitor sound. -/
theorem Monitor.Sound.withSetpoint {m : Monitor} (h : m.Sound) (lit : m.lit = true) (v : Nat) :
    { m with setpoint := some v }.Sound :=
  h.congr (setpoint := (h.setpoint.mpr (m.lit_iff.mp lit)).symm)

/-- R55: a strike that begins again is sound. -/
theorem Monitor.Sound.retried {m : Monitor} (h : m.Sound) (striking : m.arc = .striking) (retries made good t : Nat) :
    { m with retryCount := retries, retriesMade := made, goodCount := good, strikeTimer := some t }.Sound :=
  h.congr (timer := (h.timer.mpr striking).symm)

/-- R54: STABLE declared out of STRIKING. -/
theorem Monitor.Sound.declared {m : Monitor} (h : m.Sound) (striking : m.arc = .striking) :
    { m with arc := .stable, strikeTimer := none, samples := [], badCount := 0 }.Sound := by
  have notDark : m.arc ≠ .dark := by simp [striking]
  have held : m.heightHold = false := by simpa [striking] using h.height
  constructor <;> simp [held, h.setpoint.mpr notDark, h.purpose.mpr notDark]

/-- R56: a sample joins the window of a monitor that is past its strike. -/
theorem Monitor.Sound.withSample {m : Monitor} (h : m.Sound) (notDark : m.arc ≠ .dark) (notStriking : m.arc ≠ .striking)
    (w : Nat) (q : Quality) : (m.withSample w q).Sound where
  timer := h.timer
  height := h.height
  setpoint := h.setpoint
  purpose := h.purpose
  samples := fun early => (early.elim notDark notStriking).elim
  bad := rfl

/-- R56, R60: STABLE becomes DISTURBED, with height hold on. -/
theorem Monitor.Sound.disturbed {m : Monitor} (h : m.Sound) (stable : m.arc = .stable) (n : Nat) :
    { m with arc := .disturbed, heightHold := true, disturbances := n }.Sound := by
  have notDark : m.arc ≠ .dark := by simp [stable]
  have stopped : m.strikeTimer = none := by simpa [stable] using h.timer
  constructor <;> simp [stopped, h.setpoint.mpr notDark, h.purpose.mpr notDark, h.bad]

/-- R57, R60: DISTURBED becomes STABLE, with height hold off. -/
theorem Monitor.Sound.calmed {m : Monitor} (h : m.Sound) (disturbed : m.arc = .disturbed) :
    { m with arc := .stable, heightHold := false }.Sound := by
  have notDark : m.arc ≠ .dark := by simp [disturbed]
  have stopped : m.strikeTimer = none := by simpa [disturbed] using h.timer
  constructor <;> simp [stopped, h.setpoint.mpr notDark, h.purpose.mpr notDark, h.bad]

/-! ## Two states -/

/-- From s to t every monitor record that was sound is sound. -/
def State.KeepsSound (s t : State) : Prop := ∀ g, (s.monitor g).Sound → (t.monitor g).Sound

variable {s t u : State}

theorem State.KeepsSound.monitorsSound (h : s.KeepsSound t) (hs : s.MonitorsSound) : t.MonitorsSound := fun g => h g (hs g)

theorem State.KeepsSound.refl : s.KeepsSound s := fun _ h => h

theorem State.KeepsSound.trans (h : s.KeepsSound t) (k : t.KeepsSound u) : s.KeepsSound u := fun g hg => k g (h g hg)

theorem State.keepsSound_of_monitors (h : t.monitors = s.monitors) : s.KeepsSound t := by
  intro g hg
  rwa [State.monitor, h]

/-- What leaves the monitors as they were keeps them sound. -/
theorem State.ChangesOnly.keepsSound {ps : List Part} (h : s.ChangesOnly ps t) (hm : Part.monitors ∉ ps := by decide) :
    s.KeepsSound t :=
  keepsSound_of_monitors (h .monitors hm)

/-- An operation that leaves the monitors as they were follows. -/
theorem State.KeepsSound.followedBy {ps : List Part} (h : s.KeepsSound t) (k : t.ChangesOnly ps u)
    (hm : Part.monitors ∉ ps := by decide) : s.KeepsSound u :=
  h.trans (k.keepsSound hm)

theorem State.foldl_keepsSound {α : Type} (f : State → α → State) (hf : ∀ (s : State) (x : α), s.KeepsSound (f s x))
    (l : List α) (s : State) : s.KeepsSound (l.foldl f s) := by
  induction l generalizing s with
  | nil => exact .refl
  | cons x xs ih => exact (hf s x).trans (ih _)

variable (s)

theorem State.modMonitor_keepsSound (g : Gantry) (f : Monitor → Monitor)
    (hf : (s.monitor g).Sound → (f (s.monitor g)).Sound) : s.KeepsSound (s.modMonitor g f) := by
  intro h hs
  rw [modMonitor_monitor]
  split
  · rename_i e
    exact hf (e ▸ hs)
  · exact hs

/-! ## Feeder budget -/

theorem State.beginStrike_keepsSound (g : Gantry) : s.KeepsSound (s.beginStrike g) := by
  unfold State.beginStrike
  split
  · exact .refl
  · exact ((torchOn_changes s g).keepsSound.trans
      (modMonitor_keepsSound _ g _ fun _ => Monitor.sound_of_strike)).followedBy (mark_changes _ _)

theorem State.admitChannel_keepsSound (g : Gantry) (kind : ArcKind) (amount : Nat) :
    s.KeepsSound (s.admitChannel g kind amount) :=
  (((setBooking_changes s _ _).keepsSound.followedBy (evalLoad_changes _)).followedBy (modChannel_changes _ _ _)).trans
    (beginStrike_keepsSound _ _)

theorem State.testWaitListN_keepsSound (n : Nat) : s.KeepsSound (s.testWaitListN n) := by
  induction n generalizing s with
  | zero => exact .refl
  | succ n ih =>
    unfold State.testWaitListN
    split
    · exact .refl
    · split
      · exact ((modBudget_changes s _).keepsSound.trans (admitChannel_keepsSound _ _ _ _)).trans (ih _)
      · exact .refl

theorem State.testWaitList_keepsSound : s.KeepsSound s.testWaitList := testWaitListN_keepsSound _ _

theorem State.afterDecrease_keepsSound : s.KeepsSound s.afterDecrease :=
  (evalLoad_changes s).keepsSound.trans (testWaitList_keepsSound _)

theorem State.releaseBooking_keepsSound (g : Gantry) : s.KeepsSound (s.releaseBooking g) :=
  (setBooking_changes s _ _).keepsSound.trans (afterDecrease_keepsSound _)

theorem State.removeWaiter_keepsSound (g : Gantry) : s.KeepsSound (s.removeWaiter g) := by
  unfold State.removeWaiter
  split
  · exact (modBudget_changes s _).keepsSound.trans (testWaitList_keepsSound _)
  · exact .refl

theorem State.requestBooking_keepsSound (g : Gantry) (kind : ArcKind) (amount : Nat) :
    s.KeepsSound (s.requestBooking g kind amount) := by
  unfold State.requestBooking
  split
  · exact (modBudget_changes s _).keepsSound.followedBy (mark_changes _ _)
  · exact (modBudget_changes s _).keepsSound.trans (admitChannel_keepsSound _ _ _ _)
  · exact ((modBudget_changes s _).keepsSound.followedBy (mark_changes _ _)).followedBy (modChannel_changes _ _ _)

theorem State.stepDownBooking_keepsSound (g : Gantry) (current : Nat) : s.KeepsSound (s.stepDownBooking g current) := by
  unfold State.stepDownBooking
  dsimp only
  split
  · exact (setBooking_changes s _ _).keepsSound.trans (afterDecrease_keepsSound _)
  · exact (setBooking_changes s _ _).keepsSound

/-- R69: T falls or rises with a re-booking. -/
theorem State.afterRebooking_keepsSound (p : Prop) [Decidable p] : s.KeepsSound (if p then s.afterDecrease else s.evalLoad) := by
  split
  · exact afterDecrease_keepsSound s
  · exact (evalLoad_changes s).keepsSound

theorem State.rebookCut_keepsSound (g : Gantry) (asked : Nat) : s.KeepsSound (s.rebookCut g asked) := by
  unfold State.rebookCut
  dsimp only
  split
  · exact .refl
  · refine KeepsSound.followedBy ?_ (tellGantry_changes _ _ _)
    have booked := (setBooking_changes s g ⟨.cut, s.budget.grant g asked⟩).keepsSound.trans
      (afterRebooking_keepsSound _ (asked < (s.booking g).amount))
    split
    · exact ((booked.followedBy (modBudget_changes _ _)).followedBy (mark_changes _ _)).followedBy (modChannel_changes _ _ _)
        |>.followedBy (mark_changes _ _)
    · exact booked

theorem State.setHallGate_keepsSound (h : Option HallGateCause) : s.KeepsSound (s.setHallGate h) :=
  (setCauses_changes s _).keepsSound.trans (testWaitList_keepsSound _)

/-! ## Arcs put out -/

/-- R59: TORCH_OFF, and HEIGHT_HOLD off after it where height hold was on. -/
theorem State.tellDark_keepsSound (g : Gantry) (p : Prop) [Decidable p] :
    s.KeepsSound (if p then (s.tellGantry g .torchOff).tellGantry g (.heightHold false) else s.tellGantry g .torchOff) := by
  split
  · exact (tellGantry_changes s g _).keepsSound.followedBy (tellGantry_changes _ _ _)
  · exact (tellGantry_changes s g _).keepsSound

theorem State.goDark_keepsSound (g : Gantry) : s.KeepsSound (s.goDark g) :=
  ((tellDark_keepsSound s g _).trans (modMonitor_keepsSound _ g _ fun _ => Monitor.toDark_sound _)).trans
    (releaseBooking_keepsSound _ g)

/-- R58, R59: the monitor of an arc that has gone out is sound, whatever it was. -/
theorem State.goDark_sound (g : Gantry) : ((s.goDark g).monitor g).Sound := by
  refine releaseBooking_keepsSound _ g g ?_
  rw [modMonitor_monitor_same]
  exact Monitor.toDark_sound _

theorem State.putOut_keepsSound (g : Gantry) : s.KeepsSound (s.putOut g) :=
  (goDark_keepsSound s g).followedBy (mark_changes _ _)

theorem State.putOut_sound (g : Gantry) : ((s.putOut g).monitor g).Sound := goDark_sound s g

theorem State.putOutIfLit_keepsSound (g : Gantry) : s.KeepsSound (s.putOutIfLit g) := by
  unfold State.putOutIfLit
  split
  · exact putOut_keepsSound s g
  · exact .refl

/-! ## Ends of runs -/

theorem State.leaveRun_keepsSound (g : Gantry) (complete : Bool) :
    s.KeepsSound (match (s.channel g).bay with
      | some b => (s.leaveBurning b complete (s.channel g).pierceConsumed).recomputeAll
      | none => s) := by
  split
  · exact (leaveBurning_changes s _ _ _).keepsSound.followedBy (recomputeAll_changes _)
  · exact .refl

theorem State.haltUnless_keepsSound (g : Gantry) (p : Prop) [Decidable p] :
    s.KeepsSound (if p then s else s.tellGantry g .halt) := by
  split
  · exact .refl
  · exact (tellGantry_changes s g .halt).keepsSound

/-- R45: after its first action, the put-out, the end of a run keeps the monitors sound. -/
theorem State.endRun_keepsSound_of_putOut (g : Gantry) (status : EndStatus) :
    (s.putOutIfLit g).KeepsSound (s.endRun g status) := by
  have settled := (removeWaiter_keepsSound (s.putOutIfLit g) g).followedBy (settleMark_changes _ g)
  have rested := (settled.trans (haltUnless_keepsSound _ g (status = .complete))).followedBy (tellGantry_changes _ g .rest)
  have left := (rested.followedBy (modChannel_changes _ g (·.ended status))).trans
    (leaveRun_keepsSound _ g (status == EndStatus.complete))
  exact (left.followedBy (modChannel_changes _ _ _)).followedBy (mark_changes _ _)

theorem State.endRun_keepsSound (g : Gantry) (status : EndStatus) : s.KeepsSound (s.endRun g status) :=
  (putOutIfLit_keepsSound s g).trans (endRun_keepsSound_of_putOut s g status)

/-- R45: the end of a run whose arc is lit leaves its monitor sound, whatever it was. -/
theorem State.endRun_sound (g : Gantry) (status : EndStatus) (lit : s.lit g = true) :
    ((s.endRun g status).monitor g).Sound := by
  refine endRun_keepsSound_of_putOut s g status g ?_
  rw [State.putOutIfLit, if_pos lit]
  exact putOut_sound s g

theorem State.endIfRunning_keepsSound (g : Gantry) (status : EndStatus) : s.KeepsSound (s.endIfRunning g status) := by
  unfold State.endIfRunning
  split
  · exact .refl
  · exact endRun_keepsSound s g status

/-! ## Steps -/

theorem State.activateCut_keepsSound (g : Gantry) : s.KeepsSound (s.activateCut g) := by
  unfold State.activateCut
  split
  · split
    · rename_i lit
      exact (modMonitor_keepsSound s g _ fun h => h.withSetpoint lit _).trans (rebookCut_keepsSound _ g _)
    · exact .refl
  · exact .refl

theorem State.sendMotion_keepsSound (g : Gantry) (step : Step) : s.KeepsSound (s.sendMotion g step) := by
  unfold State.sendMotion
  dsimp only
  split
  · exact (sendEntry_changes s _ _ _ _).keepsSound.trans (activateCut_keepsSound _ g)
  · exact (sendEntry_changes s _ _ _ _).keepsSound

theorem State.resend_keepsSound (g : Gantry) : s.KeepsSound (s.resend g) :=
  ((modChannel_changes s _ _).keepsSound.followedBy (resendList_changes _ _ _)).trans (activateCut_keepsSound _ g)

theorem State.request_keepsSound (g : Gantry) : s.KeepsSound (s.request g) := by
  unfold State.request
  split
  · exact .refl
  · dsimp only
    split
    · exact (requestBooking_keepsSound s _ _ _).trans (endRun_keepsSound _ g _)
    · exact requestBooking_keepsSound s _ _ _

theorem State.beginPierce_keepsSound (g : Gantry) (current setpoint dwell : Nat) :
    s.KeepsSound (s.beginPierce g current setpoint dwell) :=
  (modChannel_changes s _ _).keepsSound.trans (request_keepsSound _ g)

theorem State.beginRepierce_keepsSound (g : Gantry) (current setpoint : Nat) :
    s.KeepsSound (s.beginRepierce g current setpoint) :=
  (setInProgress_changes s _ _).keepsSound.trans (request_keepsSound _ g)

theorem State.extinguish_keepsSound (g : Gantry) : s.KeepsSound (s.extinguish g) :=
  ((putOutIfLit_keepsSound s g).followedBy (modChannel_changes _ _ _)).followedBy (stepDone_changes _ _)

theorem State.starveOut_keepsSound (g : Gantry) : s.KeepsSound (s.starveOut g) := by
  unfold State.starveOut
  dsimp only
  split
  · exact (putOut_keepsSound s g).followedBy (modChannel_changes _ _ _)
  · exact .refl

theorem State.starve_keepsSound (g : Gantry) : s.KeepsSound (s.starve g) :=
  ((modChannel_changes s _ _).keepsSound.followedBy (mark_changes _ _)).trans (starveOut_keepsSound _ g)

theorem State.carryOut_keepsSound (g : Gantry) (step : Step) : s.KeepsSound (s.carryOut g step) := by
  cases step with
  | travel => exact (modChannel_changes s _ _).keepsSound.trans (sendMotion_keepsSound _ g _)
  | pierce => exact beginPierce_keepsSound s g _ _ _
  | cutLine => exact sendMotion_keepsSound s g _
  | cutArc => exact sendMotion_keepsSound s g _
  | extinguish => exact extinguish_keepsSound s g
  | mark => exact (beginMark_changes s g _ _ _ _ _ _).keepsSound
  | milestone => exact (milestone_changes s g _).keepsSound
  | check => exact (beginCheck_changes s g _ _ _).keepsSound
  | finish => exact (consumeEnd_changes s g).keepsSound

theorem State.consumeN_keepsSound (g : Gantry) (n : Nat) : s.KeepsSound (s.consumeN n g) := by
  induction n generalizing s with
  | zero => exact .refl
  | succ n ih =>
    unfold State.consumeN
    dsimp only
    split
    · exact .refl
    · split
      · split
        · exact starve_keepsSound s g
        · exact .refl
      · split
        · exact .refl
        · exact endRun_keepsSound s g _
        · exact beginRepierce_keepsSound s g _ _
        · exact ((modChannel_changes s _ _).keepsSound.trans (carryOut_keepsSound _ g _)).trans (ih _)

theorem State.finishEnding_keepsSound (g : Gantry) : s.KeepsSound (s.finishEnding g) := by
  unfold State.finishEnding
  dsimp only
  split
  · exact endRun_keepsSound s g _
  · exact .refl

theorem State.continueRun_keepsSound (g : Gantry) : s.KeepsSound (s.continueRun g) :=
  ((consumeN_keepsSound s g _).trans (starveOut_keepsSound _ g)).trans (finishEnding_keepsSound _ g)

theorem State.pickUpWindow_keepsSound (g : Gantry) : s.KeepsSound (s.pickUpWindow g) := by
  unfold State.pickUpWindow
  dsimp only
  split
  · exact (resend_keepsSound s g).trans (continueRun_keepsSound _ g)
  · exact continueRun_keepsSound s g

theorem State.stepDown_keepsSound (g : Gantry) : s.KeepsSound (s.stepDown g) := by
  unfold State.stepDown
  split
  · exact (((stepDownBooking_keepsSound s g _).followedBy (modChannel_changes _ _ _)).followedBy (stepDone_changes _ _)).trans
      (pickUpWindow_keepsSound _ g)
  · exact ((stepDownBooking_keepsSound s g _).followedBy (modChannel_changes _ _ _)).trans (pickUpWindow_keepsSound _ g)
  · exact .refl

/-! ## Holds, resumption and starts -/

theorem State.holdChannel_keepsSound (g : Gantry) (cause : HeldCause) : s.KeepsSound (s.holdChannel g cause) := by
  unfold State.holdChannel
  dsimp only
  refine .followedBy (.followedBy ?_ (modChannel_changes _ g _)) (mark_changes _ _)
  refine .followedBy (.followedBy ?_ (modChannel_changes _ g _)) (settleMark_changes _ g)
  refine .trans (.followedBy ?_ (modChannel_changes _ g _)) (removeWaiter_keepsSound _ g)
  refine .trans (.followedBy ?_ (modChannel_changes _ g _)) (putOutIfLit_keepsSound _ g)
  exact (tellGantry_changes s g .halt).keepsSound

theorem State.guardHolds_keepsSound (g : Gantry) : s.KeepsSound (s.guardHolds g) := by
  unfold State.guardHolds
  dsimp only
  split
  · exact .refl
  · split
    · exact .refl
    · exact (modChannel_changes s _ _).keepsSound.followedBy (mark_changes _ _)
  · exact holdChannel_keepsSound s g _

theorem State.lossReported_keepsSound (g : Gantry) : s.KeepsSound (s.lossReported g) := by
  unfold State.lossReported
  split
  · exact ((settleMark_changes s g).keepsSound.followedBy (modChannel_changes _ _ _)).trans (continueRun_keepsSound _ g)
  · exact (modChannel_changes s _ _).keepsSound.trans (holdChannel_keepsSound _ g _)

theorem State.pickUp_keepsSound (g : Gantry) : s.KeepsSound (s.pickUp g) := by
  unfold State.pickUp
  dsimp only
  split
  · split
    · exact beginRepierce_keepsSound s g _ _
    · exact pickUpWindow_keepsSound s g
  · refine (modChannel_changes s g (fun c => { c with frozen := false })).keepsSound.trans ?_
    split
    · exact request_keepsSound _ g
    · exact request_keepsSound _ g
    · exact (beginCheck_changes _ g _ _ _).keepsSound.trans (continueRun_keepsSound _ g)
    · exact continueRun_keepsSound _ g

theorem State.resumeRun_keepsSound (g : Gantry) : s.KeepsSound (s.resumeRun g) :=
  (modChannel_changes s _ _).keepsSound.trans (pickUp_keepsSound _ g)

theorem State.startRun_keepsSound (g : Gantry) (b : BayIx) : s.KeepsSound (s.startRun g b) := by
  unfold State.startRun
  dsimp only
  have started := (startBurning_changes s b).keepsSound.followedBy (recomputeAll_changes _)
  split
  · exact (started.followedBy (modChannel_changes _ _ _)).trans (holdChannel_keepsSound _ g _)
  · exact (started.followedBy (modChannel_changes _ _ _)).trans (continueRun_keepsSound _ g)

/-! ## Marks and reports of the gantry -/

theorem State.takeSerial_keepsSound (g : Gantry) : s.KeepsSound (s.takeSerial g) := by
  unfold State.takeSerial
  split
  · dsimp only
    split
    · exact (((modHeat_changes s _ _).keepsSound.followedBy (makeTrace_changes _ _)).followedBy
        (tellGantry_changes _ _ _)).followedBy (modChannel_changes _ _ _)
    · exact (((traceWithoutSerial_changes s g _ _).keepsSound.trans (putOut_keepsSound _ g)).followedBy
        (markDone_changes _ g)).trans (continueRun_keepsSound _ g)
  · exact .refl

theorem State.markPositioned_keepsSound (g : Gantry) : s.KeepsSound (s.markPositioned g) := by
  unfold State.markPositioned
  split
  · exact (modChannel_changes s _ _).keepsSound.trans (request_keepsSound _ g)
  · exact .refl

theorem State.markWritten_keepsSound (g : Gantry) : s.KeepsSound (s.markWritten g) := by
  unfold State.markWritten
  split
  · exact (((putOut_keepsSound s g).followedBy (settleTrace_changes _ _ _)).followedBy (markDone_changes _ g)).trans
      (continueRun_keepsSound _ g)
  · exact .refl

theorem State.entriesLeft_keepsSound (g : Gantry) (gone : List WindowEntry) : s.KeepsSound (s.entriesLeft g gone) := by
  unfold State.entriesLeft
  split
  · exact markPositioned_keepsSound s g
  · split
    · exact markWritten_keepsSound s g
    · exact (activateCut_keepsSound s g).trans (continueRun_keepsSound _ g)

theorem State.doneReported_keepsSound (g : Gantry) (seq : Byte) : s.KeepsSound (s.doneReported g seq) := by
  unfold State.doneReported
  dsimp only
  split
  · exact (gantryStray_changes s g).keepsSound
  · split
    · exact (gantryStray_changes s g).keepsSound
    · exact (modChannel_changes s _ _).keepsSound.trans (entriesLeft_keepsSound _ g _)

theorem State.statusReported_keepsSound (g : Gantry) (code : Byte) : s.KeepsSound (s.statusReported g code) := by
  unfold State.statusReported
  dsimp only
  split
  · exact (modChannel_changes s _ _).keepsSound
  · exact (modChannel_changes s _ _).keepsSound.trans (endIfRunning_keepsSound _ g _)

theorem State.gantryLost_keepsSound (g : Gantry) : s.KeepsSound (s.gantryLost g) :=
  (modChannel_changes s _ _).keepsSound.trans (endIfRunning_keepsSound _ g _)

/-! ## Samples -/

theorem State.stableReported_keepsSound (g : Gantry) : s.KeepsSound (s.stableReported g) := by
  unfold State.stableReported
  split
  · split
    · exact stepDown_keepsSound s g
    · exact (modChannel_changes s _ _).keepsSound
  · exact stepDown_keepsSound s g
  · exact takeSerial_keepsSound s g
  · exact .refl

theorem State.declareStable_keepsSound (g : Gantry) (striking : (s.monitor g).arc = .striking) :
    s.KeepsSound (s.declareStable g) :=
  ((modMonitor_keepsSound s g _ fun h => h.declared striking).followedBy (mark_changes _ _)).trans
    (stableReported_keepsSound _ g)

/-- R54: only a monitor in STRIKING judges a sample by the count of good ones. -/
theorem State.strikeSample_keepsSound (g : Gantry) (q : Quality) (striking : (s.monitor g).arc = .striking) :
    s.KeepsSound (s.strikeSample g q) := by
  unfold State.strikeSample
  cases q with
  | bad => exact modMonitor_keepsSound s g _ fun h => h.congr
  | good =>
    have counted := modMonitor_keepsSound s g (fun m => { m with goodCount := bump8 m.goodCount }) fun h => h.congr
    dsimp only
    split
    · refine counted.trans (declareStable_keepsSound _ g ?_)
      rw [modMonitor_monitor_same]
      exact striking
    · exact counted

theorem State.loseArc_keepsSound (g : Gantry) : s.KeepsSound (s.loseArc g) :=
  (((goDark_keepsSound s g).trans (modMonitor_keepsSound _ g _ fun h => h.congr)).followedBy (mark_changes _ _)).trans
    (lossReported_keepsSound _ g)

theorem State.disturb_keepsSound (g : Gantry) (stable : (s.monitor g).arc = .stable) : s.KeepsSound (s.disturb g) :=
  ((modMonitor_keepsSound s g _ fun h => h.disturbed stable _).followedBy (mark_changes _ _)).followedBy
    (tellGantry_changes _ _ _)

theorem State.calm_keepsSound (g : Gantry) (disturbed : (s.monitor g).arc = .disturbed) : s.KeepsSound (s.calm g) :=
  ((modMonitor_keepsSound s g _ fun h => h.calmed disturbed).followedBy (mark_changes _ _)).followedBy
    (tellGantry_changes _ _ _)

/-- R56, R57: only a monitor in STABLE or DISTURBED takes a sample into its window. -/
theorem State.windowSample_keepsSound (g : Gantry) (q : Quality) (notDark : (s.monitor g).arc ≠ .dark)
    (notStriking : (s.monitor g).arc ≠ .striking) : s.KeepsSound (s.windowSample g q) := by
  unfold State.windowSample
  dsimp only
  rw [modMonitor_monitor_same]
  have taken := modMonitor_keepsSound s g (fun m => m.withSample (s.channel g).params.window q)
    fun h => h.withSample notDark notStriking _ _
  have arc : ((s.modMonitor g (fun m => m.withSample (s.channel g).params.window q)).monitor g).arc = (s.monitor g).arc := by
    rw [modMonitor_monitor_same]
    rfl
  split
  · exact taken.trans (loseArc_keepsSound _ g)
  · split
    · rename_i stable
      cases q with
      | bad => exact taken.trans (disturb_keepsSound _ g (arc.trans stable))
      | good => exact taken
    · rename_i notStable
      split
      · refine taken.trans (calm_keepsSound _ g (arc.trans ?_))
        cases e : (s.monitor g).arc with
        | dark => exact absurd e notDark
        | striking => exact absurd e notStriking
        | stable => exact absurd e notStable
        | disturbed => rfl
      · exact taken

theorem State.sampleReported_keepsSound (g : Gantry) (v : Nat) : s.KeepsSound (s.sampleReported g v) := by
  unfold State.sampleReported
  dsimp only
  split
  · exact modMonitor_keepsSound s g _ fun h => h.congr
  · rename_i notDark
    have counted := modMonitor_keepsSound s g (fun m =>
      { m with
        clamped := if sampleCeiling < v then bump m.clamped else m.clamped
        classified := bump m.classified }) fun h => h.congr
    split
    · rename_i striking
      exact counted.trans (strikeSample_keepsSound _ g _ (by rw [modMonitor_monitor_same]; exact striking))
    · rename_i notStriking
      exact counted.trans (windowSample_keepsSound _ g _ (by rw [modMonitor_monitor_same]; exact notDark)
        (by rw [modMonitor_monitor_same]; exact notStriking))

/-! ## Timers of a channel and its arc -/

theorem State.strikeFailed_keepsSound (g : Gantry) : s.KeepsSound (s.strikeFailed g) := by
  unfold State.strikeFailed
  split
  · exact ((putOut_keepsSound s g).followedBy (settleMark_changes _ g)).trans (continueRun_keepsSound _ g)
  · exact endRun_keepsSound s g _

/-- R55: a failed strike puts its arc out, so its monitor is sound after it, whatever it was. -/
theorem State.strikeFailed_sound (g : Gantry) (lit : s.lit g = true) : ((s.strikeFailed g).monitor g).Sound := by
  unfold State.strikeFailed
  split
  · exact continueRun_keepsSound _ g g ((settleMark_changes _ g).keepsSound (by decide) g (putOut_sound s g))
  · exact endRun_sound s g _ lit

/-- R55: a running strike timer is that of an arc in STRIKING; the last failure stops it and puts the arc out. -/
theorem State.strikeExpired_keepsSound (g : Gantry) (running : (s.monitor g).strikeTimer ≠ none) :
    s.KeepsSound (s.strikeExpired g) := by
  have striking (h : (s.monitor g).Sound) : (s.monitor g).arc = .striking := h.timer.mp (Option.isSome_iff_ne_none.mpr running)
  unfold State.strikeExpired
  dsimp only
  split
  · have again : s.KeepsSound ((s.tellGantry g .torchOff).torchOn g) :=
      (tellGantry_changes s g _).keepsSound.followedBy (torchOn_changes _ g)
    have same : ((s.tellGantry g .torchOff).torchOn g).monitor g = s.monitor g :=
      congrArg (·.get g) (torchOn_changes (s.tellGantry g .torchOff) g .monitors (by decide))
    refine again.trans (modMonitor_keepsSound _ g _ ?_)
    rw [same]
    exact fun h => h.retried (striking h) _ _ _ _
  · intro h hs
    by_cases e : h = g
    · subst e
      refine strikeFailed_sound _ h ?_
      rw [State.lit, modMonitor_monitor_same, Monitor.lit_iff]
      simp [striking hs]
    · refine strikeFailed_keepsSound _ g h ?_
      rwa [modMonitor_monitor, if_neg e]

theorem State.dwellExpired_keepsSound (g : Gantry) : s.KeepsSound (s.dwellExpired g) :=
  (modChannel_changes s _ _).keepsSound.trans (stepDown_keepsSound _ g)

theorem State.checkWaiter_keepsSound (line : LineIx) (g : Gantry) : s.KeepsSound (s.checkWaiter line g) := by
  unfold State.checkWaiter
  dsimp only
  split
  · split
    · exact ((modChannel_changes s _ _).keepsSound.followedBy (stepDone_changes _ _)).trans (continueRun_keepsSound _ g)
    · exact .refl
  · exact .refl

theorem State.checkWaiters_keepsSound (line : LineIx) : s.KeepsSound (s.checkWaiters line) :=
  foldl_keepsSound _ (fun s g => checkWaiter_keepsSound s line g) _ _

end Sys2Proof.Machine
end

section
/-! SUPPORT. Sound monitor records through the hall, the field lines and every request (R169). -/

namespace Sys2Proof.Machine

open State

set_option Elab.async false

variable (s : State)

/-! ## Hall and lines -/

/-- R127: the dispatch pass that a change of hall state calls for. -/
theorem State.callPassIf_keepsSound (p : Prop) [Decidable p] : s.KeepsSound (if p then s.callPass.runDuePass else s) := by
  split
  · exact (callPass_changes s).keepsSound.followedBy (runDuePass_changes _)
  · exact .refl

theorem State.changeHall_keepsSound (state : HallState) (cause : HallCause) : s.KeepsSound (s.changeHall state cause) :=
  (((setHallRecord_changes s _ _).keepsSound.trans (setHallGate_keepsSound _ _)).followedBy (hallCranes_changes _ _ _)).trans
    (callPassIf_keepsSound _ _)

theorem State.enterHall_keepsSound (state : HallState) (cause : HallCause) : s.KeepsSound (s.enterHall state cause) := by
  unfold State.enterHall
  dsimp only
  split
  · exact (changeHall_keepsSound s _ _).trans (changeHall_keepsSound _ _ _)
  · exact changeHall_keepsSound s _ _

theorem State.stopHall_keepsSound : s.KeepsSound s.stopHall := by
  unfold State.stopHall
  dsimp only
  have stopped := ((foldl_keepsSound _ (fun s g => endIfRunning_keepsSound s g .hallStop) allChannels s).followedBy
    (stopCrane_changes _ .c1 .hallStop)).followedBy (stopCrane_changes _ .c2 .hallStop)
  split
  · exact stopped
  · exact stopped.followedBy (setHallRecord_changes _ _ _)
  · exact stopped.trans (enterHall_keepsSound _ _ _)
  · exact stopped.trans (enterHall_keepsSound _ _ _)

theorem State.wakeByLine_keepsSound : s.KeepsSound s.wakeByLine := by
  unfold State.wakeByLine
  split
  · exact enterHall_keepsSound s _ _
  · exact .refl

theorem State.hostSilent_keepsSound : s.KeepsSound s.hostSilent := by
  have silent : s.KeepsSound (s.modLink (fun l => { l with silenceTimer := none, silent := true })) :=
    keepsSound_of_monitors (s.modLink_monitors _)
  unfold State.hostSilent
  dsimp only
  split
  · exact silent.trans (enterHall_keepsSound _ _ _)
  · exact silent

theorem State.report_keepsSound (a : Aggregate) (active : Bool) : s.KeepsSound (s.report a active) := by
  unfold State.report
  split
  · dsimp only
    refine .followedBy (.followedBy ?_ (guardHaltsCrane_changes _ _ _)) (guardHaltsCrane_changes _ _ _)
    split
    · exact guardHolds_keepsSound s _
    · exact .refl
  · exact (guardReleasesCrane_changes s _ _).keepsSound.followedBy (guardReleasesCrane_changes _ _ _)
  · exact (overloadBegins_changes s _).keepsSound
  · exact stopHall_keepsSound s
  · exact wakeByLine_keepsSound s
  · exact .refl

theorem State.reportIfChanged_keepsSound (a : Option Aggregate) (before : State) :
    s.KeepsSound (s.reportIfChanged a before) := by
  unfold State.reportIfChanged
  split
  · exact .refl
  · split
    · exact .refl
    · exact report_keepsSound s _ _

theorem State.takeChange_keepsSound (i : LineIx) : s.KeepsSound (s.takeChange i) := by
  unfold State.takeChange
  dsimp only
  refine .trans (.trans ?_ (reportIfChanged_keepsSound _ _ _)) (checkWaiters_keepsSound _ i)
  split
  · exact (modLine_changes s _ _).keepsSound.followedBy (mark_changes _ _)
  · exact (modLine_changes s _ _).keepsSound

theorem State.inputChange_keepsSound (i : LineIx) (level : Level) : s.KeepsSound (s.inputChange i level) := by
  unfold State.inputChange
  dsimp only
  have seen := (modLine_changes s i (fun l => { l with input := level })).keepsSound
  split
  · split
    · exact seen.followedBy (modLine_changes _ _ _)
    · exact seen
  · split
    · exact seen
    · split
      · exact seen.trans (takeChange_keepsSound _ i)
      · exact seen.followedBy (modLine_changes _ _ _)

theorem State.configureLine_keepsSound (i : LineIx) (function : LineFunction) (activeLevel : Level) (filterTime : Nat)
    (edge : LatchEdge) : s.KeepsSound (s.configureLine i function activeLevel filterTime edge) := by
  have reported (u : State) (p : Prop) [Decidable p] :
      u.KeepsSound (if p then u else u.reportIfChanged function.aggregate s) := by
    split
    · exact .refl
    · exact reportIfChanged_keepsSound u _ s
  have waited (u : State) (p : Prop) [Decidable p] : u.KeepsSound (if p then u else u.checkWaiters i) := by
    split
    · exact .refl
    · exact checkWaiters_keepsSound u i
  exact (((modLine_changes s i _).keepsSound.trans (reportIfChanged_keepsSound _ _ s)).trans (reported _ _)).trans (waited _ _)

/-! ## Resets -/

/-- R50: a state whose monitors are those of a reset has sound records. -/
theorem State.keepsSound_of_reset {t : State} (h : t.monitors = Vector.replicate 4 Monitor.reset) : s.KeepsSound t := by
  intro g _
  have e : t.monitor g = Monitor.reset := by simp [State.monitor, h, vector_get_eq]
  rw [e]
  exact Monitor.reset_sound

/-! ## Requests: how a request is answered -/

theorem State.serve_keepsSound (typ tag : Byte) (fits : Bool) {act : State → Answer}
    (ha : ∀ u : State, u.KeepsSound (act u).state) : s.KeepsSound (s.serve typ tag fits act) := by
  have taken := (hostFrameTaken_changes s).keepsSound
  unfold State.serve
  dsimp only
  split
  · exact taken.followedBy (modStats_changes _ _)
  · refine .followedBy (.followedBy ?_ (queueReply_changes _ _)) (runDuePass_changes _)
    split
    · exact taken.trans (ha _)
    · exact taken

theorem State.serveUnknown_keepsSound (typ tag : Byte) : s.KeepsSound (s.serveUnknown typ tag) := by
  have taken := (hostFrameTaken_changes s).keepsSound
  unfold State.serveUnknown
  dsimp only
  split
  · exact taken.followedBy (modStats_changes _ _)
  · exact taken.followedBy (queueReply_changes _ _)

variable {s}

theorem Answer.ok_state (values : List Byte) : (Answer.ok s values).state = s := rfl

theorem Answer.fields_keepsSound {α : Type} {o : Option α} {act : α → Answer} (h : ∀ x, s.KeepsSound (act x).state) :
    s.KeepsSound (Answer.fields s o act).state := by
  cases o with
  | none => exact .refl
  | some x => exact h x

theorem Answer.test_keepsSound {code : ResultCode} {act : Answer} (h : s.KeepsSound act.state) :
    s.KeepsSound (Answer.test s code act).state := by
  unfold Answer.test
  split
  · exact h
  · exact .refl

theorem State.openOrder_keepsSound {n : Nat} {act : Order → Answer} (h : ∀ o, s.KeepsSound (act o).state) :
    s.KeepsSound (s.openOrder n act).state := by
  unfold State.openOrder
  split
  · exact h _
  · split <;> exact .refl

variable (s) (body : List Byte)

/-! ## Requests: hall, lines and link -/

theorem hallRunRequest_keepsSound : s.KeepsSound (hallRunRequest s).state := by
  unfold hallRunRequest
  split
  · exact .refl
  · split
    · exact .refl
    · exact enterHall_keepsSound s _ _

theorem hallPauseRequest_keepsSound : s.KeepsSound (hallPauseRequest s).state := by
  unfold hallPauseRequest
  split
  · exact enterHall_keepsSound s _ _
  · exact .refl

theorem hallParkRequest_keepsSound : s.KeepsSound (hallParkRequest s).state := by
  unfold hallParkRequest
  split
  · exact .refl
  · split
    · exact enterHall_keepsSound s _ _
    · exact .refl

theorem hallWakeRequest_keepsSound : s.KeepsSound (hallWakeRequest s).state := by
  unfold hallWakeRequest
  split
  · exact .refl
  · split
    · exact .refl
    · exact enterHall_keepsSound s _ _

theorem hallResetRequest_keepsSound : s.KeepsSound (hallResetRequest s).state := by
  unfold hallResetRequest
  split
  · exact keepsSound_of_reset s (t := s.hallReset) rfl
  · exact .refl

theorem hallSetRequest_keepsSound : s.KeepsSound (hallSetRequest body s).state :=
  Answer.fields_keepsSound fun t => keepsSound_of_monitors (t := s.setHallTimes t) rfl

theorem lineSetRequest_keepsSound : s.KeepsSound (lineSetRequest body s).state :=
  Answer.fields_keepsSound fun _ => configureLine_keepsSound s _ _ _ _ _

theorem State.clearLatches_keepsSound (lines : List LineIx) : s.KeepsSound (s.clearLatches lines) := by
  unfold State.clearLatches
  exact foldl_keepsSound _ (fun s i => (modLine_changes s i _).keepsSound) lines s

theorem lineClearRequest_keepsSound : s.KeepsSound (lineClearRequest body s).state :=
  Answer.fields_keepsSound fun _ => clearLatches_keepsSound s _

theorem noticeMaskRequest_keepsSound : s.KeepsSound (noticeMaskRequest body s).state :=
  Answer.fields_keepsSound fun _ => keepsSound_of_monitors (s.modLink_monitors _)

theorem State.clearNotice_keepsSound (k : NoticeClass) : s.KeepsSound (s.clearNotice k) :=
  keepsSound_of_monitors (by cases k <;> rfl)

theorem noticeClearRequest_keepsSound : s.KeepsSound (noticeClearRequest body s).state :=
  Answer.fields_keepsSound fun _ => foldl_keepsSound _ clearNotice_keepsSound _ s

/-! ## Requests: bays and heats -/

theorem bayDeclareRequest_keepsSound : s.KeepsSound (bayDeclareRequest body s).state := by
  refine Answer.fields_keepsSound fun d => ?_
  split
  · exact .refl
  · split
    · exact .refl
    · exact .refl
    · exact ((modBay_changes s _ _).keepsSound.followedBy (addRef_changes _ _)).followedBy (bayChanged_changes _ _)
    · exact .refl

theorem bayAcceptRequest_keepsSound : s.KeepsSound (bayAcceptRequest body s).state := by
  have accepted (b : BayIx) : s.KeepsSound ((s.modBay b Bay.accept).bayChanged b) :=
    (modBay_changes s b _).keepsSound.followedBy (bayChanged_changes _ b)
  refine Answer.fields_keepsSound fun b => ?_
  split
  · exact .refl
  · exact .refl
  · exact accepted b
  · exact accepted b
  · exact .refl

theorem State.dropPlate_keepsSound (p : Plate) : s.KeepsSound (s.dropPlate p) := by
  unfold State.dropPlate
  dsimp only
  split
  · exact (dropRef_changes s _).keepsSound.followedBy (vacate_changes _ _)
  · exact (dropRef_changes s _).keepsSound

theorem State.clearBay_keepsSound (b : BayIx) : s.KeepsSound (s.clearBay b) := by
  unfold State.clearBay
  dsimp only
  refine .followedBy ?_ (bayChanged_changes _ b)
  split
  · exact (modBay_changes s b _).keepsSound.trans (dropPlate_keepsSound _ _)
  · exact (modBay_changes s b _).keepsSound

theorem bayClearRequest_keepsSound : s.KeepsSound (bayClearRequest body s).state := by
  refine Answer.fields_keepsSound fun b => ?_
  split
  · exact .refl
  · exact .refl
  · exact .refl
  · exact .refl
  · exact clearBay_keepsSound s b

theorem readerSetRequest_keepsSound : s.KeepsSound (readerSetRequest body s).state :=
  Answer.fields_keepsSound fun _ => keepsSound_of_monitors (s.modBayTable_monitors _)

theorem placesSetRequest_keepsSound : s.KeepsSound (placesSetRequest body s).state := by
  refine Answer.fields_keepsSound fun l => ?_
  split
  · exact .refl
  · split
    · exact keepsSound_of_monitors (s.modBayTable_monitors _)
    · exact .refl

theorem heatOpenRequest_keepsSound : s.KeepsSound (heatOpenRequest body s).state := by
  refine Answer.fields_keepsSound fun o => ?_
  split
  · exact .refl
  · split
    · exact .refl
    · exact (setHeat_changes s _ _).keepsSound

theorem heatCloseRequest_keepsSound : s.KeepsSound (heatCloseRequest body s).state := by
  refine Answer.fields_keepsSound fun h => ?_
  split
  · exact .refl
  · split
    · exact (modHeat_changes s _ _).keepsSound
    · exact .refl

theorem heatReopenRequest_keepsSound : s.KeepsSound (heatReopenRequest body s).state := by
  refine Answer.fields_keepsSound fun h => ?_
  split
  · exact .refl
  · split
    · exact (modHeat_changes s _ _).keepsSound
    · exact .refl

theorem heatDropRequest_keepsSound : s.KeepsSound (heatDropRequest body s).state := by
  refine Answer.fields_keepsSound fun h => ?_
  split
  · exact .refl
  · split
    · exact (setHeat_changes s _ _).keepsSound
    · exact .refl

/-! ## Requests: channels, arcs and budget -/

theorem State.appendSteps_keepsSound (g : Gantry) (steps : List Step) : s.KeepsSound (s.appendSteps g steps) := by
  unfold State.appendSteps
  dsimp only
  have appended := (modChannel_changes s g (fun c => { c with buffer := c.buffer ++ steps })).keepsSound
  split
  · exact (appended.followedBy (modChannel_changes _ _ _)).trans (continueRun_keepsSound _ g)
  · exact appended.trans (continueRun_keepsSound _ g)
  · exact appended

theorem stepsRequest_keepsSound : s.KeepsSound (stepsRequest body s).state := by
  refine Answer.fields_keepsSound fun r => ?_
  dsimp only
  split
  · exact .refl
  · split
    · exact (modChannel_changes s _ _).keepsSound
    · exact appendSteps_keepsSound s _ _

theorem startRequest_keepsSound : s.KeepsSound (startRequest body s).state := by
  refine Answer.fields_keepsSound fun r => ?_
  split
  · exact .refl
  · split
    · exact .refl
    · split
      · exact .refl
      · exact startRun_keepsSound s _ _

theorem holdRequest_keepsSound : s.KeepsSound (holdRequest body s).state := by
  refine Answer.fields_keepsSound fun g => ?_
  split
  · exact .refl
  · exact .refl
  · exact .refl
  · exact holdChannel_keepsSound s g _

theorem resumeRequest_keepsSound : s.KeepsSound (resumeRequest body s).state := by
  refine Answer.fields_keepsSound fun g => ?_
  split
  · exact .refl
  · exact resumeRun_keepsSound s g

theorem stopRequest_keepsSound : s.KeepsSound (stopRequest body s).state := by
  refine Answer.fields_keepsSound fun g => ?_
  split
  · exact .refl
  · exact endRun_keepsSound s g _

theorem flushRequest_keepsSound : s.KeepsSound (flushRequest body s).state := by
  refine Answer.fields_keepsSound fun g => ?_
  split
  · exact (modChannel_changes s _ _).keepsSound
  · exact .refl

/-- R61: new set parameters leave what soundness speaks of. -/
theorem State.setArc_keepsSound (g : Option Gantry) (p : ArcParams) : s.KeepsSound (s.setArc g p) := by
  cases g with
  | some g => exact modMonitor_keepsSound s g _ fun h => h.congr
  | none =>
    intro h hs
    have e : (s.setArc none p).monitor h = { s.monitor h with params := p } := by
      simp [State.setArc, State.monitor, vector_get_eq]
    rw [e]
    exact hs.congr

theorem arcSetRequest_keepsSound : s.KeepsSound (arcSetRequest body s).state :=
  Answer.fields_keepsSound fun _ => setArc_keepsSound s _ _

theorem State.endImpossible_keepsSound (w : Waiter) : s.KeepsSound (s.endImpossible w) :=
  ((modBudget_changes s _).keepsSound.followedBy (mark_changes _ _)).trans (endRun_keepsSound _ _ _)

theorem State.dropImpossible_keepsSound : s.KeepsSound s.dropImpossible := by
  unfold State.dropImpossible
  dsimp only
  exact (modBudget_changes s _).keepsSound.trans (foldl_keepsSound _ endImpossible_keepsSound _ _)

theorem State.setBudget_keepsSound (v : BudgetValues) : s.KeepsSound (s.setBudget v) :=
  ((((modBudget_changes s _).keepsSound.followedBy (mark_changes _ _)).trans (dropImpossible_keepsSound _)).followedBy
    (evalLoad_changes _)).trans (testWaitList_keepsSound _)

theorem budgetSetRequest_keepsSound : s.KeepsSound (budgetSetRequest body s).state := by
  refine Answer.fields_keepsSound fun v => ?_
  split
  · exact .refl
  · exact setBudget_keepsSound s v

/-! ## Requests: remnants -/

theorem remnantAddRequest_keepsSound : s.KeepsSound (remnantAddRequest body s).state := by
  refine Answer.fields_keepsSound fun e => Answer.test_keepsSound ?_
  split
  · exact .refl
  · exact ((setRemnant_changes s _ _).keepsSound.followedBy (addRef_changes _ _)).followedBy (expiryTest_changes _ _)

theorem State.nameRemnant_keepsSound (b : BayIx) (i : Option RemnantIx) : s.KeepsSound (s.nameRemnant b i) :=
  (modBay_changes s b _).keepsSound.followedBy (bayChanged_changes _ b)

theorem State.enterFromBay_keepsSound (b : BayIx) (p : Plate) (width length : Nat) :
    s.KeepsSound (s.enterFromBay b p width length).state := by
  unfold State.enterFromBay
  split
  · exact .refl
  · split
    · exact .refl
    · split
      · exact (modRemnant_changes s _ _).keepsSound
      · split
        · exact .refl
        · exact ((setRemnant_changes s _ _).keepsSound.followedBy (addRef_changes _ _)).trans (nameRemnant_keepsSound _ _ _)

theorem State.consumeFromBay_keepsSound (b : BayIx) (p : Plate) : s.KeepsSound (s.consumeFromBay b p).state := by
  unfold State.consumeFromBay
  split
  · exact .refl
  · exact (vacate_changes s _).keepsSound.trans (nameRemnant_keepsSound _ _ _)

theorem remnantFromBayRequest_keepsSound : s.KeepsSound (remnantFromBayRequest body s).state := by
  refine Answer.fields_keepsSound fun r => ?_
  split
  · split
    · exact consumeFromBay_keepsSound s _ _
    · exact enterFromBay_keepsSound s _ _ _ _
  · exact .refl

theorem remnantReserveRequest_keepsSound : s.KeepsSound (remnantReserveRequest body s).state := by
  refine Answer.fields_keepsSound fun r => ?_
  split
  · exact (modRemnant_changes s _ _).keepsSound
  · exact .refl

theorem remnantUnreserveRequest_keepsSound : s.KeepsSound (remnantUnreserveRequest body s).state := by
  refine Answer.fields_keepsSound fun i => ?_
  split
  · exact (modRemnant_changes s _ _).keepsSound.followedBy (expiryTest_changes _ _)
  · exact .refl

theorem remnantRenewRequest_keepsSound : s.KeepsSound (remnantRenewRequest body s).state := by
  refine Answer.fields_keepsSound fun i => ?_
  split
  · exact (modRemnant_changes s _ _).keepsSound
  · exact .refl

theorem State.setRemnantValues_keepsSound (v : RemnantSettings) : s.KeepsSound (s.setRemnantValues v) := by
  unfold State.setRemnantValues
  exact (modRemnants_changes s _).keepsSound.followedBy (expiryTests_changes _)

theorem remnantSetRequest_keepsSound : s.KeepsSound (remnantSetRequest body s).state := by
  refine Answer.fields_keepsSound fun v => ?_
  rw [Answer.ok_state]
  exact setRemnantValues_keepsSound s v

theorem remnantDropRequest_keepsSound : s.KeepsSound (remnantDropRequest body s).state := by
  refine Answer.fields_keepsSound fun i => ?_
  split
  · exact (vacate_changes s _).keepsSound
  · exact .refl

/-! ## Requests: orders and cranes -/

theorem orderSubmitRequest_keepsSound : s.KeepsSound (orderSubmitRequest body s).state := by
  have refused : s.KeepsSound s.countRefused := keepsSound_of_monitors rfl
  unfold orderSubmitRequest
  split
  · exact refused
  · split
    · exact (acceptOrder_changes s _).keepsSound
    · exact refused

theorem orderCancelRequest_keepsSound : s.KeepsSound (orderCancelRequest body s).state := by
  refine Answer.fields_keepsSound fun n => openOrder_keepsSound fun o => ?_
  split
  · exact (cancelOrder_changes s o).keepsSound
  · exact (cancelOrder_changes s o).keepsSound
  · exact .refl

theorem orderRedirectRequest_keepsSound : s.KeepsSound (orderRedirectRequest body s).state := by
  refine Answer.fields_keepsSound fun r => openOrder_keepsSound fun o => ?_
  split
  · exact Answer.test_keepsSound (redirect_changes s o _ _).keepsSound
  · exact .refl

theorem orderStatusRequest_keepsSound : s.KeepsSound (orderStatusRequest body s).state := by
  unfold orderStatusRequest
  dsimp only
  split
  · exact .refl
  · split <;> exact .refl

theorem craneResumeRequest_keepsSound : s.KeepsSound (craneResumeRequest body s).state := by
  refine Answer.fields_keepsSound fun c => ?_
  split
  · exact (resumeCrane_changes s c).keepsSound
  · exact .refl

theorem craneClearRequest_keepsSound : s.KeepsSound (craneClearRequest body s).state := by
  refine Answer.fields_keepsSound fun c => ?_
  split
  · exact (clearCrane_changes s c).keepsSound
  · exact .refl

theorem craneSetRequest_keepsSound : s.KeepsSound (craneSetRequest body s).state := by
  refine Answer.fields_keepsSound fun t => ?_
  split
  · exact .refl
  · split
    · exact .refl
    · exact (setCranes_changes s t).keepsSound

end Sys2Proof.Machine
end

section
/-! SUPPORT. Sound monitor records through every command and through a step, and the statement that rests on it. -/

namespace Sys2Proof.Machine

open State

set_option Elab.async false

/-- Where a command is answered with a next state, that state keeps the sound monitor records of s. -/
def State.ReactsSound (s : State) (r : Reaction) : Prop := ∀ t, r = .next t → s.KeepsSound t

variable {s t : State}

theorem State.ReactsSound.next (h : s.KeepsSound t) : s.ReactsSound (.next t) := by
  intro t' e
  cases e
  exact h

theorem State.ReactsSound.react (h : s.KeepsSound t) : s.ReactsSound t.react :=
  .next (h.followedBy (runDuePass_changes t))

theorem State.ReactsSound.served {typ tag : Byte} {fits : Bool} {act : State → Answer}
    (h : ∀ u : State, u.KeepsSound (act u).state) : s.ReactsSound (.next (s.serve typ tag fits act)) :=
  .next (serve_keepsSound s typ tag fits h)

/-- A stopped timer has no expiry. -/
theorem State.ReactsSound.expiry {timer : Option Nat} {r : Reaction} (h : timer ≠ none → s.ReactsSound r) :
    s.ReactsSound (if timer = none then .next s else r) := by
  split
  · exact .next .refl
  · rename_i running
    exact h running

variable (s)

/-! ## Link events -/

theorem State.countIfHost_keepsSound (p : Port) (f : LinkStats → LinkStats) : s.KeepsSound (s.countIfHost p f) := by
  cases p with
  | host => exact (modStats_changes s f).keepsSound
  | gantry => exact .refl
  | crane => exact .refl

theorem State.abandon_keepsSound (p : Port) (why : FrameError) : s.KeepsSound (s.abandon p why) := by
  cases why with
  | badLength => exact (setReceiver_changes s p _).keepsSound.trans (countIfHost_keepsSound _ p _)
  | badCrc => exact (setReceiver_changes s p _).keepsSound.trans (countIfHost_keepsSound _ p _)

theorem State.gapTimeout_keepsSound (p : Port) : s.KeepsSound (s.gapTimeout p) := by
  unfold State.gapTimeout
  split
  · exact .refl
  · exact (setReceiver_changes s p _).keepsSound.trans (countIfHost_keepsSound _ p _)

theorem State.heard_keepsSound (p : Port) (heard : Heard) : s.KeepsSound (s.heard p heard) := by
  cases heard with
  | nothing => exact .refl
  | badLength => exact countIfHost_keepsSound s p _
  | badCrc => exact countIfHost_keepsSound s p _
  | valid => exact .refl

theorem State.modLink_keepsSound (f : Link → Link) : s.KeepsSound (s.modLink f) := keepsSound_of_monitors (s.modLink_monitors f)

theorem State.transmit_keepsSound (f : Frame) : s.KeepsSound (s.transmit f) :=
  (modLink_keepsSound s _).followedBy (emit_changes _ _)

theorem State.sendReply_keepsSound : s.KeepsSound s.sendReply := by
  unfold State.sendReply
  split
  · exact (modLink_keepsSound s _).trans (transmit_keepsSound _ _)
  · exact .refl

theorem State.sendNotice_keepsSound : s.KeepsSound s.sendNotice := by
  unfold State.sendNotice
  split
  · exact ((clearNotice_keepsSound s _).trans (modLink_keepsSound _ _)).trans (transmit_keepsSound _ _)
  · exact .refl

/-! ## Reads of a plate -/

theorem State.readReported_keepsSound (g : Gantry) (bay : Byte) (chars : List Byte) :
    s.KeepsSound (s.readReported g bay chars) := by
  unfold State.readReported
  split
  · exact (takeRead_changes s _ _).keepsSound
  · exact keepsSound_of_monitors (s.modBayTable_monitors _)

/-! ## Commands -/

/-- Every command but RECEIVE_BYTE, which runs another's meaning. -/
theorem exec_reactsSound_of_ne (i : Instr) (hi : ∀ p b, i ≠ .receiveByte p b) : s.ReactsSound (exec i s) := by
  have fromGantry (g : Gantry) : s.KeepsSound (s.gantryFrameTaken g) := (gantryFrameTaken_changes s g).keepsSound
  have fromCrane (c : CraneId) : s.KeepsSound (s.craneFrameTaken c) := (craneFrameTaken_changes s c).keepsSound
  cases i with
  | powerOn straps => exact .next (keepsSound_of_reset s rfl)
  | resetPin straps => exact .next (keepsSound_of_reset s rfl)
  | identify tag body => exact .served fun _ => .refl
  | linkStatus tag body => exact .served fun _ => .refl
  | noticeMask tag body => exact .served fun u => noticeMaskRequest_keepsSound u body
  | noticeClear tag body => exact .served fun u => noticeClearRequest_keepsSound u body
  | hallStatus tag body => exact .served fun _ => .refl
  | hallRun tag body => exact .served fun u => hallRunRequest_keepsSound u
  | hallPause tag body => exact .served fun u => hallPauseRequest_keepsSound u
  | hallPark tag body => exact .served fun u => hallParkRequest_keepsSound u
  | hallWake tag body => exact .served fun u => hallWakeRequest_keepsSound u
  | hallReset tag body => exact .served fun u => hallResetRequest_keepsSound u
  | hallSet tag body => exact .served fun u => hallSetRequest_keepsSound u body
  | lineSet tag body => exact .served fun u => lineSetRequest_keepsSound u body
  | lineStatus tag body => exact .served fun _ => Answer.fields_keepsSound fun _ => .refl
  | lineClear tag body => exact .served fun u => lineClearRequest_keepsSound u body
  | bayStatus tag body => exact .served fun _ => Answer.fields_keepsSound fun _ => .refl
  | bayDeclare tag body => exact .served fun u => bayDeclareRequest_keepsSound u body
  | bayAccept tag body => exact .served fun u => bayAcceptRequest_keepsSound u body
  | bayClear tag body => exact .served fun u => bayClearRequest_keepsSound u body
  | readerSet tag body => exact .served fun u => readerSetRequest_keepsSound u body
  | placesSet tag body => exact .served fun u => placesSetRequest_keepsSound u body
  | steps tag body => exact .served fun u => stepsRequest_keepsSound u body
  | start tag body => exact .served fun u => startRequest_keepsSound u body
  | hold tag body => exact .served fun u => holdRequest_keepsSound u body
  | resume tag body => exact .served fun u => resumeRequest_keepsSound u body
  | stop tag body => exact .served fun u => stopRequest_keepsSound u body
  | flush tag body => exact .served fun u => flushRequest_keepsSound u body
  | channelStatus tag body => exact .served fun _ => Answer.fields_keepsSound fun _ => .refl
  | arcSet tag body => exact .served fun u => arcSetRequest_keepsSound u body
  | arcStatus tag body => exact .served fun _ => Answer.fields_keepsSound fun _ => .refl
  | budgetSet tag body => exact .served fun u => budgetSetRequest_keepsSound u body
  | budgetStatus tag body => exact .served fun _ => .refl
  | heatOpen tag body => exact .served fun u => heatOpenRequest_keepsSound u body
  | heatClose tag body => exact .served fun u => heatCloseRequest_keepsSound u body
  | heatReopen tag body => exact .served fun u => heatReopenRequest_keepsSound u body
  | heatDrop tag body => exact .served fun u => heatDropRequest_keepsSound u body
  | heatStatus tag body => exact .served fun _ => Answer.fields_keepsSound fun _ => .refl
  | traceRead tag body => exact .served fun _ => Answer.fields_keepsSound fun _ => .refl
  | remnantAdd tag body => exact .served fun u => remnantAddRequest_keepsSound u body
  | remnantFromBay tag body => exact .served fun u => remnantFromBayRequest_keepsSound u body
  | remnantReserve tag body => exact .served fun u => remnantReserveRequest_keepsSound u body
  | remnantUnreserve tag body => exact .served fun u => remnantUnreserveRequest_keepsSound u body
  | remnantRenew tag body => exact .served fun u => remnantRenewRequest_keepsSound u body
  | remnantRead tag body => exact .served fun _ => Answer.fields_keepsSound fun _ => .refl
  | remnantFind tag body => exact .served fun _ => Answer.fields_keepsSound fun _ => .refl
  | remnantSet tag body => exact .served fun u => remnantSetRequest_keepsSound u body
  | remnantDrop tag body => exact .served fun u => remnantDropRequest_keepsSound u body
  | orderSubmit tag body => exact .served fun u => orderSubmitRequest_keepsSound u body
  | orderCancel tag body => exact .served fun u => orderCancelRequest_keepsSound u body
  | orderRedirect tag body => exact .served fun u => orderRedirectRequest_keepsSound u body
  | orderStatus tag body => exact .served fun u => orderStatusRequest_keepsSound u body
  | craneStatus tag body => exact .served fun _ => Answer.fields_keepsSound fun _ => .refl
  | craneResume tag body => exact .served fun u => craneResumeRequest_keepsSound u body
  | craneClear tag body => exact .served fun u => craneClearRequest_keepsSound u body
  | craneSet tag body => exact .served fun u => craneSetRequest_keepsSound u body
  | unknownTypeRequest typ tag body => exact .next (serveUnknown_keepsSound s typ tag)
  | invalidFrame port why => exact .next (abandon_keepsSound s port why)
  | frameGapTimeout port => exact .next (gapTimeout_keepsSound s port)
  | sendReply => exact .next (sendReply_keepsSound s)
  | sendNotice => exact .next (sendNotice_keepsSound s)
  | transmitFrameEnd => exact .next (modLink_keepsSound s _)
  | linkSilence => exact .expiry fun _ => .react (hostSilent_keepsSound s)
  | summaryTimerExpiry => exact .expiry fun _ => .next ((modHall_changes s _).keepsSound.followedBy (mark_changes _ _))
  | purgeTimerExpiry => exact .expiry fun _ => .react (enterHall_keepsSound s _ _)
  | lineInputChange line level => exact .react (inputChange_keepsSound s line level)
  | lineFilterExpiry line => exact .expiry fun _ => .react (takeChange_keepsSound s line)
  | gantryDone g seq => exact .react ((fromGantry g).trans (doneReported_keepsSound _ g seq))
  | gantryHalted g x y => exact .next ((fromGantry g).followedBy (haltedReported_changes _ g _ _))
  | gantrySample g voltage => exact .react ((fromGantry g).trans (sampleReported_keepsSound _ g _))
  | gantryRead g bay chars => exact .next ((fromGantry g).trans (readReported_keepsSound _ g bay chars))
  | gantryStatus g code => exact .react ((fromGantry g).trans (statusReported_keepsSound _ g code))
  | gantryStrayFrame g typ body => exact .next ((fromGantry g).followedBy (gantryStray_changes _ g))
  | gantrySilenceTimeout g => exact .expiry fun _ => .react (gantryLost_keepsSound s g)
  | haltTimerExpiry g => exact .expiry fun _ => .react (endRun_keepsSound s g _)
  | dwellTimerExpiry g => exact .expiry fun _ => .react (dwellExpired_keepsSound s g)
  | checkTimerExpiry g => exact .expiry fun _ => .react (endRun_keepsSound s g _)
  | strikeTimerExpiry g => exact .expiry fun running => .react (strikeExpired_keepsSound s g running)
  | cranePortStatus c position hook code =>
    exact .react ((fromCrane c).followedBy (craneStatusReported_changes _ c _ hook code))
  | arrived c position => exact .react ((fromCrane c).followedBy (arrivedAt_changes _ c _))
  | picked c => exact .react ((fromCrane c).followedBy (pickedBy_changes _ c))
  | setDown c => exact .react ((fromCrane c).followedBy (setDownBy_changes _ c))
  | craneStrayFrame c typ body => exact .next ((fromCrane c).followedBy (craneStray_changes _ c))
  | craneSilenceTimeout c => exact .expiry fun _ => .react (craneLost_changes s c).keepsSound
  | hoistTimerExpiry c => exact .expiry fun _ => .react (stopCrane_changes s c _).keepsSound
  | orderPromotion number => exact .react (promotionDue_changes s number).keepsSound
  | agingTimerExpiry =>
    exact .expiry fun _ => .next (((ageStocked_changes s).keepsSound.followedBy (expiryTests_changes _)).followedBy
      (modRemnants_changes _ _))
  | receiveByte port byte => exact absurd rfl (hi port byte)

/-- R168: a valid frame runs the meaning of its row; a command that is no frame is not run. -/
theorem runFrame_eq (i : Instr) : runFrame i s = .next s ∨ ((∀ p b, i ≠ .receiveByte p b) ∧ runFrame i s = exec i s) := by
  cases i <;> first | exact .inl rfl | exact .inr ⟨by simp, rfl⟩

theorem runFrame_reactsSound (i : Instr) : s.ReactsSound (runFrame i s) := by
  rcases runFrame_eq s i with idle | ⟨frame, run⟩
  · rw [idle]
    exact .next .refl
  · rw [run]
    exact exec_reactsSound_of_ne s i frame

theorem execReceiveByte_reactsSound (p : Port) (b : Byte) : s.ReactsSound (execReceiveByte p b s) := by
  intro t h
  unfold execReceiveByte at h
  generalize (s.receivers.get p).take b = taken at h
  obtain ⟨r, heard⟩ := taken
  have received := (setReceiver_changes s p r).keepsSound
  dsimp only at h
  split at h
  · exact received.trans (runFrame_reactsSound _ _ t h)
  · cases h
    exact received.trans (heard_keepsSound _ p _)

theorem exec_reactsSound (i : Instr) : s.ReactsSound (exec i s) := by
  by_cases h : ∃ p b, i = .receiveByte p b
  · obtain ⟨p, b, rfl⟩ := h
    exact execReceiveByte_reactsSound s p b
  · exact exec_reactsSound_of_ne s i fun p b e => h ⟨p, b, e⟩

/-! ## Steps -/

/-- One millisecond counts a running strike timer down and lets it run. -/
theorem State.tick_keepsSound : s.KeepsSound s.tick := by
  intro g hg
  have e : s.tick.monitor g = { s.monitor g with strikeTimer := tickDown (s.monitor g).strikeTimer } := by
    simp [State.tick, State.monitor, vector_get_eq]
  rw [e]
  exact hg.congr (timer := by simp [tickDown])

theorem step_keepsSound (h : step s = .next t) : s.KeepsSound t := by
  unfold step at h
  split at h
  · cases h
    exact tick_keepsSound s
  · rename_i i rest _
    have taken : s.KeepsSound { s with pending := rest } := keepsSound_of_monitors rfl
    exact taken.trans (exec_reactsSound _ i t h)

/-- Settles O8: each monitor's soundness is kept by every operation that a step is made of (`State.KeepsSound`), except that
the last failed strike leaves its own monitor unsound until the put-out that follows in the same action
(`strikeExpired_keepsSound`). -/
theorem monitorsKept : Obligations.MonitorsKept := by
  unfold Obligations.MonitorsKept
  intro s t sound h
  exact (step_keepsSound s h).monitorsSound sound

end Sys2Proof.Machine
end
